-- ==== Sys2Proof/Word.lean ====
section
/-! DEFINITION. The words of the machine: a byte, a 16-bit half word and a 32-bit word. -/

namespace Sys2Proof

/-- A byte (`u8`). -/
abbrev Byte := BitVec 8

/-- A 16-bit value (`u16`): a command word, a length, the flag mask. -/
abbrev Half := BitVec 16

/-- A 32-bit value: `u32`, or the bit pattern of an `f32` (R12). -/
abbrev Word := BitVec 32

end Sys2Proof
end

