-- ==== Sys2Proof/Syntax.lean ====
section
/-! DEFINITION. The commands of GT7DC (R94): one constructor per row of spec/opcode_table.json. -/

namespace Sys2Proof

/-- The thirteen commands of R94. The index operand of format I is the integer `idx` of R93. -/
inductive Instr where
  /-- Whole pipeline (R210). -/
  | decode
  /-- Version Detector (R111). -/
  | vdet
  /-- IV Deriver (R121). -/
  | ivder
  /-- Key formatting (R133). -/
  | keyld
  /-- Copy the datagram to the working buffer (R134). -/
  | ldbuf
  /-- Stream Cipher Engine (R146). -/
  | crypt
  /-- Frame Demarshaler (R161). -/
  | demarsh
  /-- Current gear (R185). -/
  | gearc
  /-- Suggested gear (R186). -/
  | gears
  /-- Powertrain classification (R188). -/
  | ptrain
  /-- Tire linear speed at wheel `idx` (R192). -/
  | tspd (idx : Int)
  /-- Tire slip ratio at wheel `idx` (R195). -/
  | tslip (idx : Int)
  /-- Flag query by logical index (R200). -/
  | flag (idx : Int)
deriving DecidableEq, Repr

end Sys2Proof
end

