-- ==== Sys2Proof/WellFormed.lean ====
section
/-! DEFINITION. Which commands have an encoding: an index operand is an integer in -128..127 (R93). -/

namespace Sys2Proof

/-- The range of the index operand (R93). -/
def idxInRange (idx : Int) : Bool := decide (-128 ≤ idx ∧ idx ≤ 127)

/-- A command is well formed when its index operand, if it has one, is in range (R92, R93). -/
def Instr.wf : Instr → Bool
  | .decode => true
  | .vdet => true
  | .ivder => true
  | .keyld => true
  | .ldbuf => true
  | .crypt => true
  | .demarsh => true
  | .gearc => true
  | .gears => true
  | .ptrain => true
  | .tspd idx => idxInRange idx
  | .tslip idx => idxInRange idx
  | .flag idx => idxInRange idx

end Sys2Proof
end

