-- ==== Sys2Proof/Decode.lean ====
section
/-! DEFINITION. The decoder of command words (R90 to R95), total and rejecting by name, and after it the
encoder, from the same opcode map (R94). -/

namespace Sys2Proof

/-- Why a word is illegal (R95). -/
inductive DecodeError where
  /-- The opcode is none of R94's thirteen. -/
  | unknownOpcode (op : Byte)
  /-- A format-N opcode with a non-zero operand field (R91). -/
  | operandNotZero (op k : Byte)
deriving DecidableEq, Repr

/-- `op = w[15:8]` (R90). -/
def opField (w : Half) : Byte := w.extractLsb' 8 8

/-- `k = w[7:0]` (R90). -/
def operandField (w : Half) : Byte := w.extractLsb' 0 8

/-- Format N: the operand field must be 0x00 (R91). -/
def formatN (i : Instr) (op k : Byte) : Except DecodeError Instr :=
  if k = 0x00 then .ok i else .error (.operandNotZero op k)

/-- The index operand: `idx = sext_8(idx8)` (R93). -/
def idxOperand (k : Byte) : Int := k.toInt

/-- R94: the opcode first, then the operand field against the format (R90). -/
def decodeFields (op k : Byte) : Except DecodeError Instr :=
  if op = 0x01 then formatN .decode op k
  else if op = 0x02 then formatN .vdet op k
  else if op = 0x03 then formatN .ivder op k
  else if op = 0x04 then formatN .keyld op k
  else if op = 0x05 then formatN .ldbuf op k
  else if op = 0x06 then formatN .crypt op k
  else if op = 0x07 then formatN .demarsh op k
  else if op = 0x10 then formatN .gearc op k
  else if op = 0x11 then formatN .gears op k
  else if op = 0x12 then formatN .ptrain op k
  else if op = 0x13 then .ok (.tspd (idxOperand k))
  else if op = 0x14 then .ok (.tslip (idxOperand k))
  else if op = 0x15 then .ok (.flag (idxOperand k))
  else .error (.unknownOpcode op)

/-- The decoder: every one of the 65536 words is one command or illegal (R90, R95). -/
def decodeWord (w : Half) : Except DecodeError Instr := decodeFields (opField w) (operandField w)

/-- `(op << 8) | k` (R90, R97). -/
def makeWord (op k : Byte) : Half := op ++ k

/-- `idx mod 256` (R97). -/
def idxField (idx : Int) : Byte := BitVec.ofInt 8 idx

/-- The encoder (R94, R97). An index outside -128..127 has no encoding (`Instr.wf`); its low 8 bits are
what this function puts there. -/
def encode : Instr → Half
  | .decode => makeWord 0x01 0x00
  | .vdet => makeWord 0x02 0x00
  | .ivder => makeWord 0x03 0x00
  | .keyld => makeWord 0x04 0x00
  | .ldbuf => makeWord 0x05 0x00
  | .crypt => makeWord 0x06 0x00
  | .demarsh => makeWord 0x07 0x00
  | .gearc => makeWord 0x10 0x00
  | .gears => makeWord 0x11 0x00
  | .ptrain => makeWord 0x12 0x00
  | .tspd idx => makeWord 0x13 (idxField idx)
  | .tslip idx => makeWord 0x14 (idxField idx)
  | .flag idx => makeWord 0x15 (idxField idx)

/-- A command word as spec/opcode_table.json numbers its bits: bit 0 is the least significant; the bits at
and above `nbits` are 0. There is no byte order of a command: CMD is written whole (R31, R61). -/
def tableWord (nbits w : Nat) : Half := BitVec.ofNat 16 (w % 2 ^ nbits)

/-- What the decoder reads from a table word; a command is never longer than 16 bits (R96). -/
def decodeTableWord (nbits w : Nat) : Option Instr :=
  if 16 < nbits then none else (decodeWord (tableWord nbits w)).toOption

end Sys2Proof
end

