-- ==== Sys2Proof/Config.lean ====
section
/-! DEFINITION. What a configuration of GT7DC fixes (R6, R36): the type of the parameters, the constraints R6
puts on them, and the free values (93_implementation_defined.md U5, U6). The default values stand in
Sys2Proof/Machine/Params.lean. -/

namespace Sys2Proof

/-- The three protocol variants (R13, R112). `None` of R13 is `Option.none` of `Option Variant`. -/
inductive Variant where
  | a
  | b
  | c
deriving DecidableEq, Repr

/-- The names of the frame's fields (R166, R167). -/
inductive FieldName where
  | magic | position | velocity | rotation | northOrientation | angularVelocity | bodyHeight | engineRPM
  | seedSlot | fuelLevel | fuelCapacity | speed | boost | oilPressure | waterTemp | oilTemp | tireTemp
  | packetId | lapCount | totalLaps | bestLapTime | lastLapTime | dayProgression | raceStartPosition
  | preRaceNumCars | minAlertRPM | maxAlertRPM | calcMaxSpeed | flags | gears | throttle | brake | pad0
  | roadPlane | roadPlaneDistance | wheelAngularRate | tireRadius | suspHeight | reserved0 | clutchPedal
  | clutchEngagement | rpmAfterClutch | transmissionTopSpeed | gearRatio | carCode | tailB | tailC
deriving DecidableEq, Repr

/-- The element types of R166. -/
inductive FieldType where
  | u8
  | u16
  | s16
  | s32
  | u32
  | f32
deriving DecidableEq, Repr

/-- One row of `LAYOUT` (R166, R168): `(off, T, n)`. -/
structure FieldPlace where
  off : Nat
  type : FieldType
  count : Nat
deriving DecidableEq, Repr

/-- `NUMERICS` (R181). The `Nat` argument of a function that may draw is the number of the draw it takes where
the result is open (log 4); where R181 states the result, the functions do not depend on it. -/
structure Numerics where
  c36 : Word
  fmul32 : Nat → Word → Word → Word
  fdiv32 : Nat → Word → Word → Word
  fabs32 : Word → Word
  fIsZero32 : Word → Bool
  f2u8 : Nat → Word → Byte

/-- The implementation parameters of R6. `frameCap` is derived (`Config.frameCap`); RX, KSTR, BUF and FRAME
have no reset value to configure (`FRAME_RESET` is "no value"). -/
structure Config where
  /-- `SIZE_A`, `SIZE_B`, `SIZE_C`: datagram and plaintext size. -/
  size : Variant → Nat
  /-- `SEED_OFF`. -/
  seedOff : Nat
  /-- `MIX_A`, `MIX_B`, `MIX_C`. -/
  mix : Variant → Word
  /-- `KEY_STRING`. -/
  keyString : List Byte
  /-- `KSBLOCK` (key, IV, block number). -/
  ksblock : Vector Byte 32 → Vector Byte 8 → BitVec 64 → Vector Byte 64
  /-- `MAGIC`, as the little-endian value of the first four plaintext bytes. -/
  magic : Word
  /-- `HAS_MAGIC`. -/
  hasMagic : Variant → Bool
  /-- `LAYOUT`. -/
  layout : FieldName → FieldPlace
  /-- `NUMERICS`. -/
  numerics : Numerics
  /-- `FLAGMAX_RESET`. -/
  flagMaxReset : BitVec 5
  /-- `BUF_CAP`. -/
  bufCap : Nat
  /-- `RX_CAP`. -/
  rxCap : Nat
  /-- `KSTR_CAP`. -/
  kstrCap : Nat
  /-- `KA_CODE`. -/
  kaCode : Variant → Byte
  /-- `EXPVAR_RESET`. -/
  expVarReset : Variant

/-- The constraints R6 states: pairwise distinct sizes, each at least `SEED_OFF + 4` and at most `BUF_CAP`;
pairwise distinct mixing constants; `RX_CAP = BUF_CAP`; and R133's `KSTR_CAP >= 32`. -/
def Config.Valid (c : Config) : Prop :=
  (c.size .a ≠ c.size .b ∧ c.size .a ≠ c.size .c ∧ c.size .b ≠ c.size .c) ∧
  (∀ v, c.seedOff + 4 ≤ c.size v ∧ c.size v ≤ c.bufCap) ∧
  (c.mix .a ≠ c.mix .b ∧ c.mix .a ≠ c.mix .c ∧ c.mix .b ≠ c.mix .c) ∧
  c.rxCap = c.bufCap ∧ 32 ≤ c.kstrCap

/-- FREE VALUE (log 4, U5): the byte `F2U8` gives for a NaN, an infinity or a value outside `(-1.0, 256.0)`, by the
number of the draw and the operand. It has no body: nothing can be proved of it beyond its width. -/
opaque Config.freeByte : Nat → Word → Byte

/-- FREE VALUE (log 4, U6): sign (bit 22) and payload (bits 21:0) of the quiet NaN `FMUL32` gives, by the number of
the draw and the operands. -/
opaque Config.freeMulNaN : Nat → Word → Word → BitVec 23

/-- FREE VALUE (log 4, U6): the same of `FDIV32`. -/
opaque Config.freeDivNaN : Nat → Word → Word → BitVec 23

end Sys2Proof
end

