-- ==== Sys2Proof/Machine/Bytes.lean ====
section
/-! DEFINITION. Byte order and bit-field helpers (R9, R10, R61). Little-endian is the only byte order. -/

namespace Sys2Proof.Machine

/-- The unsigned little-endian value of a byte sequence, lowest index least significant (R9). -/
def leValue : List Byte → Nat
  | [] => 0
  | b :: bs => b.toNat + 256 * leValue bs

/-- `bytesLE(v)` in `n` bytes, low to high (R9). -/
def bytesLE : Nat → Nat → List Byte
  | 0, _ => []
  | n + 1, v => BitVec.ofNat 8 v :: bytesLE n (v / 256)

/-- `LE32` of up to four bytes, zero-extended when there are fewer (R9). -/
def le32 (bs : List Byte) : Word := BitVec.ofNat 32 (leValue bs)

/-- `bytesLE32(v) = (v[7:0], v[15:8], v[23:16], v[31:24])` (R9). -/
def bytesLE32 (v : Word) : List Byte := bytesLE 4 v.toNat

/-- `bytesLE64` (R9). -/
def bytesLE64 (v : BitVec 64) : List Byte := bytesLE 8 v.toNat

/-- `rotl32(a, n)`, for `0 < n < 32` (R10). -/
def rotl32 (a : Word) (n : Nat) : Word := (a <<< n) ||| (a >>> (32 - n))

/-- The first `n` bytes of a sequence, 0x00 where it has fewer. -/
def fixedBytes (n : Nat) (bs : List Byte) : Vector Byte n := Vector.ofFn fun i => (bs[i.val]?).getD 0x00

end Sys2Proof.Machine
end

