-- ==== Sys2Proof/Machine/Cipher.lean ====
section
/-! DEFINITION. The Stream Cipher Engine's functions: key formatting (R131), the keystream (R135), Salsa20/20 (R137
to R145, from general knowledge: log 5) and the XOR datapath (R146). -/

namespace Sys2Proof.Machine

/-- `FormatKey(S)`: the first 32 bytes, filled with 0x00 at the end (R131). -/
def formatKey (s : List Byte) : Vector Byte 32 := fixedBytes 32 s

/-- The four words `quarterround` returns (R137). -/
structure Quad where
  z0 : Word
  z1 : Word
  z2 : Word
  z3 : Word
deriving DecidableEq, Repr

/-- R137. -/
def quarterround (y0 y1 y2 y3 : Word) : Quad :=
  let z1 := y1 ^^^ rotl32 (y0 + y3) 7
  let z2 := y2 ^^^ rotl32 (z1 + y0) 9
  let z3 := y3 ^^^ rotl32 (z2 + z1) 13
  let z0 := y0 ^^^ rotl32 (z3 + z2) 18
  ⟨z0, z1, z2, z3⟩

/-- The sixteen words of the cipher's 4x4 matrix, row-major (R144). -/
structure Matrix where
  (x0 x1 x2 x3 x4 x5 x6 x7 x8 x9 x10 x11 x12 x13 x14 x15 : Word)
deriving DecidableEq, Repr

/-- R138. -/
def rowround (y : Matrix) : Matrix :=
  let p := quarterround y.x0 y.x1 y.x2 y.x3
  let q := quarterround y.x5 y.x6 y.x7 y.x4
  let r := quarterround y.x10 y.x11 y.x8 y.x9
  let t := quarterround y.x15 y.x12 y.x13 y.x14
  { x0 := p.z0, x1 := p.z1, x2 := p.z2, x3 := p.z3
    x5 := q.z0, x6 := q.z1, x7 := q.z2, x4 := q.z3
    x10 := r.z0, x11 := r.z1, x8 := r.z2, x9 := r.z3
    x15 := t.z0, x12 := t.z1, x13 := t.z2, x14 := t.z3 }

/-- R139. -/
def columnround (x : Matrix) : Matrix :=
  let p := quarterround x.x0 x.x4 x.x8 x.x12
  let q := quarterround x.x5 x.x9 x.x13 x.x1
  let r := quarterround x.x10 x.x14 x.x2 x.x6
  let t := quarterround x.x15 x.x3 x.x7 x.x11
  { x0 := p.z0, x4 := p.z1, x8 := p.z2, x12 := p.z3
    x5 := q.z0, x9 := q.z1, x13 := q.z2, x1 := q.z3
    x10 := r.z0, x14 := r.z1, x2 := r.z2, x6 := r.z3
    x15 := t.z0, x3 := t.z1, x7 := t.z2, x11 := t.z3 }

/-- R140. -/
def doubleround (x : Matrix) : Matrix := rowround (columnround x)

/-- `doubleround^n` (R142). -/
def doublerounds : Nat → Matrix → Matrix
  | 0, x => x
  | n + 1, x => doublerounds n (doubleround x)

/-- Word `i` of a byte sequence: `LE32(b[4i], .., b[4i+3])` (R141). -/
def wordAt (b : List Byte) (i : Nat) : Word := le32 ((b.drop (4 * i)).take 4)

/-- The sixteen words of a 64-byte sequence (R141). -/
def Matrix.ofBytes (b : List Byte) : Matrix :=
  { x0 := wordAt b 0, x1 := wordAt b 1, x2 := wordAt b 2, x3 := wordAt b 3
    x4 := wordAt b 4, x5 := wordAt b 5, x6 := wordAt b 6, x7 := wordAt b 7
    x8 := wordAt b 8, x9 := wordAt b 9, x10 := wordAt b 10, x11 := wordAt b 11
    x12 := wordAt b 12, x13 := wordAt b 13, x14 := wordAt b 14, x15 := wordAt b 15 }

/-- The words of a matrix, `x[0]` first. -/
def Matrix.words (x : Matrix) : List Word :=
  [x.x0, x.x1, x.x2, x.x3, x.x4, x.x5, x.x6, x.x7, x.x8, x.x9, x.x10, x.x11, x.x12, x.x13, x.x14, x.x15]

/-- R142: ten doublerounds and the feed-forward addition, as bytes (R141). -/
def salsa20Core (b : List Byte) : Vector Byte 64 :=
  let x := Matrix.ofBytes b
  let z := doublerounds 10 x
  fixedBytes 64 ((List.zipWith (· + ·) x.words z.words).flatMap bytesLE32)

/-- "expand 32-byte k", in four groups (R143). -/
def sigma0 : List Byte := [0x65, 0x78, 0x70, 0x61]
def sigma1 : List Byte := [0x6E, 0x64, 0x20, 0x33]
def sigma2 : List Byte := [0x32, 0x2D, 0x62, 0x79]
def sigma3 : List Byte := [0x74, 0x65, 0x20, 0x6B]

/-- `In(K, N, j)` (R144). -/
def salsa20Input (k : Vector Byte 32) (n : Vector Byte 8) (j : BitVec 64) : List Byte :=
  sigma0 ++ k.toList.take 16 ++ sigma1 ++ n.toList ++ bytesLE64 j ++ sigma2 ++ k.toList.drop 16 ++ sigma3

/-- `KSBLOCK` as the spec instantiates it: Salsa20/20 (R145). -/
def salsa20Block (k : Vector Byte 32) (n : Vector Byte 8) (j : BitVec 64) : Vector Byte 64 :=
  salsa20Core (salsa20Input k n j)

/-- `KS(K, N, p) = KSBLOCK(K, N, p div 64)[p mod 64]` (R135). -/
def keystreamByte (c : Config) (k : Vector Byte 32) (n : Vector Byte 8) (p : Nat) : Byte :=
  (c.ksblock k n (BitVec.ofNat 64 (p / 64)))[p % 64]'(Nat.mod_lt _ (by decide))

/-- The keystream of `len` bytes, block by block from block number 0, the unused tail of the last block
discarded (R146's block form; log 11). -/
def keystream (c : Config) (k : Vector Byte 32) (n : Vector Byte 8) (len : Nat) : List Byte :=
  ((List.range ((len + 63) / 64)).flatMap fun j => (c.ksblock k n (BitVec.ofNat 64 j)).toList).take len

/-- The XOR datapath: every byte with the keystream byte of its position (R130, R146). -/
def cryptBytes (c : Config) (k : Vector Byte 32) (n : Vector Byte 8) (bs : List Byte) : List Byte :=
  List.zipWith (· ^^^ ·) bs (keystream c k n bs.length)

end Sys2Proof.Machine
end

