-- ==== Sys2Proof/Machine/Float32.lean ====
section
/-! DEFINITION. The default `NUMERICS` of R181: IEEE 754 binary32 on bit patterns, round to nearest even, subnormals
honoured, computed exactly on integers and rounded once. Open results are free values (log 4). -/

namespace Sys2Proof.Machine

/-- Sign bit of a binary32 pattern. -/
def f32Sign (a : Word) : Bool := a.getLsbD 31

/-- Biased exponent, bits 30:23. -/
def f32Exp (a : Word) : Nat := (a.extractLsb' 23 8).toNat

/-- Fraction, bits 22:0. -/
def f32Frac (a : Word) : Nat := (a.extractLsb' 0 23).toNat

/-- Exponent all ones and a non-zero fraction. -/
def f32IsNaN (a : Word) : Bool := decide (f32Exp a = 255 ∧ f32Frac a ≠ 0)

/-- Exponent all ones and a zero fraction. -/
def f32IsInf (a : Word) : Bool := decide (f32Exp a = 255 ∧ f32Frac a = 0)

/-- The integer significand `M` of a finite pattern: its magnitude is `M * 2 ^ f32Scale`. -/
def f32Sig (a : Word) : Nat := if f32Exp a = 0 then f32Frac a else f32Frac a + 2 ^ 23

/-- The power of two of a finite pattern's significand. -/
def f32Scale (a : Word) : Int := if f32Exp a = 0 then -149 else (f32Exp a : Int) - 150

/-- A pattern from a sign and the 31 bits below it. -/
def f32Pack (neg : Bool) (low : Nat) : Word := BitVec.ofNat 32 ((if neg then 2 ^ 31 else 0) + low)

/-- The 31 bits of infinity. -/
def f32InfLow : Nat := 0x7F800000

/-- The quiet NaN (exponent all ones, bit 22 set) with the sign and payload of a free value (U6, log 4). -/
def f32FreeNaN (p : BitVec 23) : Word :=
  f32Pack (p.getLsbD 22) (0x7FC00000 + (p.extractLsb' 0 22).toNat)

/-- `m / 2 ^ k` rounded to an integer, ties to even. -/
def roundShift (m k : Nat) : Nat :=
  let q := m / 2 ^ k
  let r := m % 2 ^ k
  if 2 ^ k < 2 * r ∨ (2 * r = 2 ^ k ∧ q % 2 = 1) then q + 1 else q

/-- The binary32 pattern nearest to `(-1)^neg * m * 2^e`, ties to even, overflow to infinity (R181). The unit in
the last place is `2 ^ ulp`; a carry out of the significand runs into the exponent field. -/
def f32Round (neg : Bool) (m : Nat) (e : Int) : Word :=
  if m = 0 then f32Pack neg 0
  else
    let ulp : Int := max ((Nat.log2 m : Int) + e - 23) (-149)
    let sig : Nat := if ulp ≤ e then m * 2 ^ (e - ulp).toNat else roundShift m (ulp - e).toNat
    f32Pack neg (min f32InfLow ((ulp + 149).toNat * 2 ^ 23 + sig))

/-- `FMUL32` (R181); `n` is the draw a NaN result takes. -/
def f32Mul (n : Nat) (a b : Word) : Word :=
  let neg := f32Sign a ^^ f32Sign b
  if f32IsNaN a || f32IsNaN b then f32FreeNaN (Config.freeMulNaN n a b)
  else if f32IsInf a then (if f32Sig b = 0 then f32FreeNaN (Config.freeMulNaN n a b) else f32Pack neg f32InfLow)
  else if f32IsInf b then (if f32Sig a = 0 then f32FreeNaN (Config.freeMulNaN n a b) else f32Pack neg f32InfLow)
  else f32Round neg (f32Sig a * f32Sig b) (f32Scale a + f32Scale b)

/-- How many quotient bits `f32Div` computes below the binary point before the sticky bit. -/
def divGuard : Nat := 50

/-- `FDIV32` (R181): the quotient's bits to `2 ^ -divGuard`, then one sticky bit for the remainder, rounded
once. -/
def f32Div (n : Nat) (a b : Word) : Word :=
  let neg := f32Sign a ^^ f32Sign b
  if f32IsNaN a || f32IsNaN b then f32FreeNaN (Config.freeDivNaN n a b)
  else if f32IsInf a then (if f32IsInf b then f32FreeNaN (Config.freeDivNaN n a b) else f32Pack neg f32InfLow)
  else if f32IsInf b then f32Pack neg 0
  else if f32Sig b = 0 then (if f32Sig a = 0 then f32FreeNaN (Config.freeDivNaN n a b) else f32Pack neg f32InfLow)
  else
    let x := f32Sig a * 2 ^ divGuard
    let q := x / f32Sig b
    let sticky := if x % f32Sig b = 0 then 0 else 1
    f32Round neg (2 * q + sticky) (f32Scale a - f32Scale b - (divGuard : Int) - 1)

/-- `FABS32(a) = a & 0x7FFFFFFF` (R181). -/
def f32Abs (a : Word) : Word := a &&& 0x7FFFFFFF

/-- `FISZERO32(a) = (a & 0x7FFFFFFF) = 0` (R181). -/
def f32IsZero (a : Word) : Bool := a &&& 0x7FFFFFFF == 0

/-- The magnitude of a finite pattern truncated to an integer. -/
def f32TruncAbs (a : Word) : Nat :=
  if 0 ≤ f32Scale a then f32Sig a * 2 ^ (f32Scale a).toNat else f32Sig a / 2 ^ (-f32Scale a).toNat

/-- `F2U8` (R181): truncation toward zero where `-1.0 < a < 256.0`, else draw `n` (U5, log 4). -/
def f32ToU8 (n : Nat) (a : Word) : Byte :=
  if f32Exp a ≠ 255 ∧ (f32TruncAbs a = 0 ∨ (f32Sign a = false ∧ f32TruncAbs a ≤ 255)) then
    BitVec.ofNat 8 (f32TruncAbs a)
  else Config.freeByte n a

/-- The default `NUMERICS`, with `C36` the binary32 nearest to 3.6 (R181). -/
def binary32 : Numerics :=
  { c36 := 0x40666666
    fmul32 := f32Mul
    fdiv32 := f32Div
    fabs32 := f32Abs
    fIsZero32 := f32IsZero
    f2u8 := f32ToU8 }

end Sys2Proof.Machine
end

