-- ==== Sys2Proof/Machine/Params.lean ====
section
/-! DEFINITION. The configuration the machine runs with: the default of every parameter of R6. The meanings take
the configuration as an argument; only `exec`, `step` and `State.reset` fix it to `params`. -/

namespace Sys2Proof.Machine

/-- Size in bytes of one element (R166, R168). -/
def fieldSize : FieldType → Nat
  | .u8 => 1
  | .u16 => 2
  | .s16 => 2
  | .s32 => 4
  | .u32 => 4
  | .f32 => 4

/-- `SIZE_A`, `SIZE_B`, `SIZE_C` (R6, R112). -/
def variantSize : Variant → Nat
  | .a => 296
  | .b => 316
  | .c => 344

/-- `MIX_A`, `MIX_B`, `MIX_C` (R6; general knowledge, log 6). -/
def mixOf : Variant → Word
  | .a => 0xDEADBEAF
  | .b => 0xDEADBEEF
  | .c => 0x55FABB4F

/-- `HAS_MAGIC` (R6, R164; general knowledge, log 7). -/
def hasMagicOf : Variant → Bool
  | .a => true
  | .b => true
  | .c => true

/-- `KA_CODE` (R6, R112; the code of variant C is general knowledge, log 9). -/
def kaCodeOf : Variant → Byte
  | .a => 0x41
  | .b => 0x42
  | .c => 0x7E

/-- `KEY_STRING`: the 38 bytes of "Simulator Interface Packet GT7 ver 0.0" (R132). -/
def keyStringBytes : List Byte :=
  [0x53, 0x69, 0x6D, 0x75, 0x6C, 0x61, 0x74, 0x6F, 0x72, 0x20, 0x49, 0x6E, 0x74, 0x65, 0x72, 0x66, 0x61, 0x63, 0x65,
    0x20, 0x50, 0x61, 0x63, 0x6B, 0x65, 0x74, 0x20, 0x47, 0x54, 0x37, 0x20, 0x76, 0x65, 0x72, 0x20, 0x30, 0x2E, 0x30]

/-- The default `LAYOUT` (R166, R167; general knowledge but for magic and seedSlot, log 8). -/
def layoutOf : FieldName → FieldPlace
  | .magic => ⟨0x000, .u32, 1⟩
  | .position => ⟨0x004, .f32, 3⟩
  | .velocity => ⟨0x010, .f32, 3⟩
  | .rotation => ⟨0x01C, .f32, 3⟩
  | .northOrientation => ⟨0x028, .f32, 1⟩
  | .angularVelocity => ⟨0x02C, .f32, 3⟩
  | .bodyHeight => ⟨0x038, .f32, 1⟩
  | .engineRPM => ⟨0x03C, .f32, 1⟩
  | .seedSlot => ⟨0x040, .u8, 4⟩
  | .fuelLevel => ⟨0x044, .f32, 1⟩
  | .fuelCapacity => ⟨0x048, .f32, 1⟩
  | .speed => ⟨0x04C, .f32, 1⟩
  | .boost => ⟨0x050, .f32, 1⟩
  | .oilPressure => ⟨0x054, .f32, 1⟩
  | .waterTemp => ⟨0x058, .f32, 1⟩
  | .oilTemp => ⟨0x05C, .f32, 1⟩
  | .tireTemp => ⟨0x060, .f32, 4⟩
  | .packetId => ⟨0x070, .s32, 1⟩
  | .lapCount => ⟨0x074, .s16, 1⟩
  | .totalLaps => ⟨0x076, .s16, 1⟩
  | .bestLapTime => ⟨0x078, .s32, 1⟩
  | .lastLapTime => ⟨0x07C, .s32, 1⟩
  | .dayProgression => ⟨0x080, .s32, 1⟩
  | .raceStartPosition => ⟨0x084, .s16, 1⟩
  | .preRaceNumCars => ⟨0x086, .s16, 1⟩
  | .minAlertRPM => ⟨0x088, .s16, 1⟩
  | .maxAlertRPM => ⟨0x08A, .s16, 1⟩
  | .calcMaxSpeed => ⟨0x08C, .s16, 1⟩
  | .flags => ⟨0x08E, .u16, 1⟩
  | .gears => ⟨0x090, .u8, 1⟩
  | .throttle => ⟨0x091, .u8, 1⟩
  | .brake => ⟨0x092, .u8, 1⟩
  | .pad0 => ⟨0x093, .u8, 1⟩
  | .roadPlane => ⟨0x094, .f32, 3⟩
  | .roadPlaneDistance => ⟨0x0A0, .f32, 1⟩
  | .wheelAngularRate => ⟨0x0A4, .f32, 4⟩
  | .tireRadius => ⟨0x0B4, .f32, 4⟩
  | .suspHeight => ⟨0x0C4, .f32, 4⟩
  | .reserved0 => ⟨0x0D4, .u8, 32⟩
  | .clutchPedal => ⟨0x0F4, .f32, 1⟩
  | .clutchEngagement => ⟨0x0F8, .f32, 1⟩
  | .rpmAfterClutch => ⟨0x0FC, .f32, 1⟩
  | .transmissionTopSpeed => ⟨0x100, .f32, 1⟩
  | .gearRatio => ⟨0x104, .f32, 8⟩
  | .carCode => ⟨0x124, .s32, 1⟩
  | .tailB => ⟨0x128, .u8, 20⟩
  | .tailC => ⟨0x13C, .u8, 28⟩

/-- Every parameter at the value R6 gives. -/
def params : Config :=
  { size := variantSize
    seedOff := 0x40
    mix := mixOf
    keyString := keyStringBytes
    ksblock := salsa20Block
    magic := 0x47375330
    hasMagic := hasMagicOf
    layout := layoutOf
    numerics := binary32
    flagMaxReset := 12
    bufCap := 4096
    rxCap := 4096
    kstrCap := 64
    kaCode := kaCodeOf
    expVarReset := .a }

/-- `K_PROTO = FormatKey(KEY_STRING)` (R6, R132). -/
def keyProto (c : Config) : Vector Byte 32 := formatKey c.keyString

/-- `FRAME_CAP`, the largest of the three sizes (R6). -/
def frameCap (c : Config) : Nat := max (c.size .a) (max (c.size .b) (c.size .c))

end Sys2Proof.Machine
end

