-- ==== Sys2Proof/Machine/State.lean ====
section
/-! DEFINITION. The state of GT7DC (10_state.md R20 to R39) as plain data, what the host can do (20_memory.md R66
to R74), the reasons a step stops, and the state after reset (R39). -/

namespace Sys2Proof.Machine

/-- A byte-addressed space (R60): the bytes that hold a value, by index, strictly rising. An index that is not
listed holds no value (R39, log 3). -/
abbrev Memory := List Host.Cell

/-- The four spaces whose bytes may hold no value (R60, R39). -/
inductive Space where
  | rx
  | kstr
  | buf
  | frame
deriving DecidableEq, Repr

/-- The outcome codes of a command, STATUS.ERR (R220). -/
inductive ErrCode where
  | none
  | unrecognizedVariant
  | truncatedSeed
  | signatureMismatch
  | sizeMismatch
  | noFrame
  | illegalCommand
  | lengthOverflow
deriving DecidableEq, Repr

/-- The registers HREAD names (R71). DESIGN CHOICE (log 21): LEN is not among them. R28 and R38 say that the host reads
LEN, R71's list does not name it; the model follows R71. -/
inductive HostReg where
  | rxLen
  | ksLen
  | seed
  | res
  | status
  | expVar
  | flagMax
  | iv
  | key
deriving DecidableEq, Repr

/-- The host actions (R66 to R71, R74). -/
inductive HostAction where
  /-- `HDELIVER D` (R66). -/
  | deliver (d : List Byte)
  /-- `HKEYSTR S` (R67). -/
  | keyStr (s : List Byte)
  /-- `HWRITE IV` (R68). -/
  | writeIv (iv : Vector Byte 8)
  /-- `HWRITE EXPVAR, v` (R69). -/
  | writeExpVar (v : BitVec 2)
  /-- `HWRITE FLAGMAX, v` (R69). -/
  | writeFlagMax (v : BitVec 5)
  /-- `HCMD w` (R70). -/
  | cmd (w : Half)
  /-- `HREAD r` (R71). -/
  | read (r : HostReg)
  /-- `HREADBUF a, n` (R71). -/
  | readBuf (a n : Nat)
  /-- `HREADFRAME a, n` (R71). -/
  | readFrame (a n : Nat)
  /-- `HFIELD name` (R71), element `i` of an array field (R168, log 13); `i` is 0 for a scalar. -/
  | field (name : FieldName) (i : Nat)
  /-- `HRESET` (R74). -/
  | reset
deriving DecidableEq, Repr

/-- What the host port returns to a host read (R71, R168). -/
inductive HostAnswer where
  /-- A register, zero-extended to 32 bits. -/
  | reg (v : Word)
  /-- Bytes, lowest index first. -/
  | bytes (bs : List Byte)
  /-- An integer field, sign-extended where its type is signed (R168). -/
  | int (z : Int)
  /-- A binary32 field's bit pattern (R168). -/
  | float (bits : Word)
deriving DecidableEq, Repr

/-- Why the machine stops with a fault. The spec gives the machine none (R73). -/
inductive Fault where
  /-- Raised by an access of `n` bytes from index `a` of a space when one of them holds no value (R39: such a
  byte has no value to give; R22, R23 and R28 say no command reads one). Safe: the hardware goes on where the
  model stops, and no state that meets `State.Inv` gets here (log 3). -/
  | noValue (sp : Space) (a n : Nat)
deriving DecidableEq, Repr

/-- Why the model has no meaning for what is asked of it. -/
inductive Refusal where
  /-- Raised by `exec` for an instruction with no meaning yet. Safe. No arm of `exec` raises it. -/
  | notModelled (mnemonic : String)
  /-- Raised by HDELIVER of more than 65535 bytes: not a host action (R66, U14). Safe. -/
  | deliverTooLong
  /-- Raised by HKEYSTR of more than 255 bytes: not a host action (R67, U14). Safe. -/
  | keyStringTooLong
  /-- Raised by HREADBUF with `a + n > LEN`: a read the model does not admit (R71). Safe. -/
  | readBufNotAdmitted
  /-- Raised by HREADFRAME with FVALID = 0 or `a + n > SIZE(FVARIANT)` (R71). Safe. -/
  | readFrameNotAdmitted
  /-- Raised by HFIELD with FVALID = 0, a field that does not lie in the frame, or an element the field does not
  have (R71, R168). Safe. -/
  | fieldNotAdmitted
deriving DecidableEq, Repr

/-- The state of the machine (R21 to R34; INVENTORY.md, State). -/
structure State where
  /-- RXLEN (R21). -/
  rxLen : Half
  /-- RX (R22). -/
  rx : Memory
  /-- KSLEN (R23). -/
  ksLen : Byte
  /-- KSTR (R23). -/
  kstr : Memory
  /-- IV (R25). -/
  iv : Vector Byte 8
  /-- SEED (R26). -/
  seed : Word
  /-- KEY (R27). -/
  key : Vector Byte 32
  /-- LEN (R28). -/
  len : Half
  /-- BUF (R28). -/
  buf : Memory
  /-- FRAME (R29). -/
  frame : Memory
  /-- RES (R30). -/
  res : Word
  /-- STATUS.ERR (R32, R220). -/
  err : ErrCode
  /-- STATUS.VARIANT (R32); `none` is code 0. -/
  variant : Option Variant
  /-- STATUS.FVARIANT (R32); `none` is code 0. -/
  fVariant : Option Variant
  /-- STATUS.FVALID (R32). -/
  fValid : Bool
  /-- EXPVAR (R33), which never holds 0. -/
  expVar : Variant
  /-- FLAGMAX (R34). -/
  flagMax : BitVec 5
  /-- MODEL'S OWN: the host actions still to be performed, the next one first (R73, log 1). -/
  pending : List HostAction
  /-- MODEL'S OWN: what the port returned to the last host read (R71, log 2). -/
  answer : Option HostAnswer
  /-- MODEL'S OWN: the number of the next draw (U5, U6, log 4). -/
  draw : Nat
deriving DecidableEq, Repr

/-- The state after reset (R39). The last three fields are the model's own (log 1, 2, 4). -/
def State.reset : State :=
  { rxLen := 0
    rx := []
    ksLen := 0
    kstr := []
    iv := fixedBytes 8 []
    seed := 0
    key := keyProto params
    len := 0
    buf := []
    frame := []
    res := 0
    err := .none
    variant := none
    fVariant := none
    fValid := false
    expVar := params.expVarReset
    flagMax := params.flagMaxReset
    pending := []
    answer := none
    draw := 0 }

end Sys2Proof.Machine
end

