-- ==== Sys2Proof/Machine/Ops.lean ====
section
/-! DEFINITION. The named operations over memory and registers, how the body of a command ends (R11), and RAISING
AN ERROR as one shared operation (R231). There is no return from an error to model: R232 says there is no
return-from-trap command. -/

namespace Sys2Proof.Machine

/-- The canonical form: indices strictly rising. No byte equals "no value", so no other condition is needed. -/
abbrev Memory.wf (m : Memory) : Prop := m.Pairwise fun x y => x.1 < y.1

/-- `B[a]`, or `none` where the byte holds no value (R8, R39). -/
def Memory.read (m : Memory) (a : Nat) : Option Byte := m.lookup a

/-- `B[a..a+n-1]` in one pass over a memory in canonical form; `none` where a byte holds no value (R8). -/
def Memory.readRange : Memory → Nat → Nat → Option (List Byte)
  | _, _, 0 => some []
  | [], _, _ + 1 => none
  | (k, b) :: m, a, n + 1 =>
    if k < a then Memory.readRange m a (n + 1)
    else if k = a then (Memory.readRange m (a + 1) n).map (b :: ·)
    else none

/-- The cells of bytes written from index `a` up. -/
def Memory.cells (a : Nat) : List Byte → Memory
  | [] => []
  | b :: bs => (a, b) :: Memory.cells (a + 1) bs

/-- `B[a..] <- bs`: the bytes of `bs` from index `a` up, every other byte as it was (R8). -/
def Memory.write (m : Memory) (a : Nat) (bs : List Byte) : Memory :=
  m.filter (·.1 < a) ++ Memory.cells a bs ++ m.filter (a + bs.length ≤ ·.1)

/-- A space that holds exactly the bytes of `bs`, from index 0 (R66, R67, R134). -/
def Memory.ofBytes (bs : List Byte) : Memory := Memory.cells 0 bs

/-- The bytes `S[a..a+n-1]`, each of which must hold a value (R39). -/
def readSpace (sp : Space) (m : Memory) (a n : Nat) : Except Fault (List Byte) :=
  match m.readRange a n with
  | some bs => .ok bs
  | none => .error (.noValue sp a n)

/-! ### Writing registers -/

/-- RXLEN and RX together (R66). -/
def State.setRx (s : State) (n : Half) (m : Memory) : State := { s with rxLen := n, rx := m }

/-- KSLEN and KSTR together (R67). -/
def State.setKstr (s : State) (n : Byte) (m : Memory) : State := { s with ksLen := n, kstr := m }

def State.setIv (s : State) (v : Vector Byte 8) : State := { s with iv := v }

def State.setSeed (s : State) (v : Word) : State := { s with seed := v }

def State.setKey (s : State) (v : Vector Byte 32) : State := { s with key := v }

/-- LEN and BUF together (R134). -/
def State.setBuf (s : State) (n : Half) (m : Memory) : State := { s with len := n, buf := m }

/-- FRAME with its tag, and FVALID set (R161). -/
def State.setFrame (s : State) (m : Memory) (v : Variant) : State :=
  { s with frame := m, fVariant := some v, fValid := true }

def State.setRes (s : State) (v : Word) : State := { s with res := v }

def State.setErr (s : State) (e : ErrCode) : State := { s with err := e }

def State.setVariant (s : State) (v : Option Variant) : State := { s with variant := v }

def State.setExpVar (s : State) (v : Variant) : State := { s with expVar := v }

def State.setFlagMax (s : State) (v : BitVec 5) : State := { s with flagMax := v }

def State.setPending (s : State) (as : List HostAction) : State := { s with pending := as }

def State.setAnswer (s : State) (v : HostAnswer) : State := { s with answer := some v }

/-- `k` draws were taken (log 4). -/
def State.advanceDraw (s : State) (k : Nat) : State := { s with draw := s.draw + k }

/-! ### How the body of a command ends -/

/-- How the body of a command, or one stage of DECODE, ends (R11, R210). -/
inductive Body where
  /-- All its statements are done; `s` holds their writes. -/
  | done (s : State)
  /-- `raise e`; `s` holds the writes made before it (R231). -/
  | raised (e : ErrCode) (s : State)
  /-- It read a byte that holds no value (`Fault.noValue`). -/
  | stuck (f : Fault)
deriving DecidableEq, Repr

/-- RAISING AN ERROR, and every other end of a command: `ERR <- code`, or `ERR <- 0` when nothing was raised;
nothing else is written, nothing is saved and control goes nowhere (R231, R32). -/
def Body.finish : Body → Host.Outcome State Fault Refusal
  | .done s => .next (s.setErr .none)
  | .raised e s => .next (s.setErr e)
  | .stuck f => .fault f

/-- The next stage runs only if this one raised nothing (R24, R210). -/
def Body.andThen (b : Body) (k : State → Body) : Body :=
  match b with
  | .done s => k s
  | .raised e s => .raised e s
  | .stuck f => .stuck f

/-- Go on with what was read, or stop where a byte holds no value. -/
def Body.reading {α : Type} (r : Except Fault α) (k : α → Body) : Body :=
  match r with
  | .ok v => k v
  | .error f => .stuck f

end Sys2Proof.Machine
end

