-- ==== Sys2Proof/Machine/Flags.lean ====
section
/-! DEFINITION. STATUS and its codes (R32, R13, R220), and the query of the SimulatorFlagSet (R169, R199). -/

namespace Sys2Proof.Machine

/-- The code of STATUS.ERR (R220). -/
def ErrCode.code : ErrCode → BitVec 4
  | .none => 0
  | .unrecognizedVariant => 1
  | .truncatedSeed => 2
  | .signatureMismatch => 3
  | .sizeMismatch => 4
  | .noFrame => 5
  | .illegalCommand => 6
  | .lengthOverflow => 7

/-- The code of a variant (R13). -/
def variantCode : Variant → BitVec 2
  | .a => 1
  | .b => 2
  | .c => 3

/-- The code of a variant or of `None` (R13). -/
def variantField : Option Variant → BitVec 2
  | none => 0
  | some v => variantCode v

/-- The variant a non-zero code names (R13). -/
def variantOfCode (v : BitVec 2) : Option Variant :=
  if v = 1 then some .a else if v = 2 then some .b else if v = 3 then some .c else none

/-- STATUS: ERR in bits 3:0, VARIANT in 5:4, FVARIANT in 7:6, FVALID in bit 8, bits 15:9 read as 0 (R32). -/
def statusWord (s : State) : Half :=
  (0 : BitVec 7) ++ BitVec.ofBool s.fValid ++ variantField s.fVariant ++ variantField s.variant ++ s.err.code

/-- `FlagQuery(m, n, max)` (R199). -/
def flagQuery (m : Half) (n : Int) (max : Nat) : Bool :=
  if n < 0 ∨ (max : Int) < n then false
  else if n = 0 then m == 0
  else m.getLsbD (n - 1).toNat

end Sys2Proof.Machine
end

