-- ==== Sys2Proof/Machine/Operands.lean ====
section
/-! DEFINITION. The operands of the commands: the seed in the datagram (R120), the key string (R133), the working
buffer (R146), and the fields of the frame (R168). No command takes an address operand (R60). -/

namespace Sys2Proof.Machine

/-- `RX[SEED_OFF..SEED_OFF+3]` (R120, R121). -/
def seedBytes (c : Config) (s : State) : Except Fault (List Byte) := readSpace .rx s.rx c.seedOff 4

/-- `RX[0..RXLEN-1]` (R134). -/
def datagram (s : State) : Except Fault (List Byte) := readSpace .rx s.rx 0 s.rxLen.toNat

/-- `KSTR[0..min(KSLEN,32)-1]` (R133). -/
def keyStringRead (s : State) : Except Fault (List Byte) := readSpace .kstr s.kstr 0 (min s.ksLen.toNat 32)

/-- `BUF[0..LEN-1]` (R146, R161). -/
def bufferBytes (s : State) : Except Fault (List Byte) := readSpace .buf s.buf 0 s.len.toNat

/-- `MemRead(BUF, 0, 4)` (R11, R161). -/
def bufferMagic (s : State) : Except Fault Word := (readSpace .buf s.buf 0 4).map le32

/-- `ReadField(name, i)`: the unsigned little-endian value of element `i`, zero-extended to 32 bits (R168). -/
def readField (c : Config) (s : State) (name : FieldName) (i : Nat) : Except Fault Word :=
  let p := c.layout name
  (readSpace .frame s.frame (p.off + i * fieldSize p.type) (fieldSize p.type)).map le32

/-- The interpretation of a field's unsigned value by its type (R168). -/
def fieldAnswer (t : FieldType) (v : Word) : HostAnswer :=
  match t with
  | .u8 => .int v.toNat
  | .u16 => .int v.toNat
  | .u32 => .int v.toNat
  | .s16 => .int (v.setWidth 16).toInt
  | .s32 => .int v.toInt
  | .f32 => .float v

end Sys2Proof.Machine
end

