-- ==== Sys2Proof/Machine/Accessors.lean ====
section
/-! DEFINITION. The accessor family (R180 to R200): GEARC, GEARS, PTRAIN, TSPD, TSLIP, FLAG. They read FRAME (and
FLAGMAX) and write RES and ERR only; the model's draw counter moves where a draw may be taken (log 4). -/

namespace Sys2Proof.Machine

/-- The common prologue (R182). -/
def accessorBody (s : State) (k : Body) : Body := if s.fValid then k else .raised .noFrame s

/-- GEARC's body: the low nibble of the gear byte (R185). -/
def gearcBody (c : Config) (s : State) : Body :=
  accessorBody s (.reading (readField c s .gears 0) fun f =>
    let g : Byte := f.setWidth 8
    .done (s.setRes ((g &&& 0x0F).setWidth 32)))

/-- GEARS's body: the high nibble, a logical shift of the unsigned byte (R186). -/
def gearsBody (c : Config) (s : State) : Body :=
  accessorBody s (.reading (readField c s .gears 0) fun f =>
    let g : Byte := f.setWidth 8
    .done (s.setRes ((g >>> 4).setWidth 32)))

/-- The powertrain classes (R187). -/
inductive PowertrainClass where
  | unknown
  | combustionStandard
  | electric
  | combustionKart
deriving DecidableEq, Repr

/-- The result codes of R187. -/
def PowertrainClass.code : PowertrainClass → Word
  | .unknown => 0
  | .combustionStandard => 1
  | .electric => 2
  | .combustionKart => 3

/-- `Powertrain(b)`, in R187's order of tests. -/
def powertrain (b : Byte) : PowertrainClass :=
  if 10 < b.toNat then .combustionStandard
  else if b.toNat = 0 then .electric
  else if b.toNat = 5 then .combustionKart
  else .unknown

/-- PTRAIN's body (R188). -/
def ptrainBody (c : Config) (s : State) : Body :=
  accessorBody s (.reading (readField c s .fuelCapacity 0) fun f =>
    .done ((s.setRes (powertrain (c.numerics.f2u8 s.draw f)).code).advanceDraw 1))

/-- `abs(3.6 * r * w)`, the products left to right, each rounded (R190); draws `n` and `n + 1`. -/
def tireSpeedOf (q : Numerics) (n : Nat) (r w : Word) : Word :=
  q.fabs32 (q.fmul32 (n + 1) (q.fmul32 n q.c36 r) w)

/-- `TireSpeed(i)` (R190): +0.0 outside 0..3, without reading FRAME. -/
def tireSpeed (c : Config) (s : State) (i : Int) : Except Fault Word :=
  if i < 0 ∨ 3 < i then .ok 0x00000000
  else do
    let r ← readField c s .tireRadius i.toNat
    let w ← readField c s .wheelAngularRate i.toNat
    return tireSpeedOf c.numerics s.draw r w

/-- TSPD's body (R192). -/
def tspdBody (c : Config) (i : Int) (s : State) : Body :=
  accessorBody s (.reading (tireSpeed c s i) fun t => .done ((s.setRes t).advanceDraw 2))

/-- `t / (3.6 * v)` (R193); draws `n` and `n + 1`. -/
def slipOf (q : Numerics) (n : Nat) (t v : Word) : Word := q.fdiv32 (n + 1) t (q.fmul32 n q.c36 v)

/-- `SlipRatio(i)` (R193): +0.0 at speed zero of either sign, whatever the index. -/
def slipRatio (c : Config) (s : State) (i : Int) : Except Fault Word := do
  let v ← readField c s .speed 0
  if c.numerics.fIsZero32 v then return 0x00000000
  let t ← tireSpeed c s i
  return slipOf c.numerics (s.draw + 2) t v

/-- TSLIP's body (R195). -/
def tslipBody (c : Config) (i : Int) (s : State) : Body :=
  accessorBody s (.reading (slipRatio c s i) fun t => .done ((s.setRes t).advanceDraw 4))

/-- FLAG's body (R200). -/
def flagBody (c : Config) (i : Int) (s : State) : Body :=
  accessorBody s (.reading (readField c s .flags 0) fun f =>
    .done (s.setRes (if flagQuery (f.setWidth 16) i s.flagMax.toNat then 1 else 0)))

/-- GEARC (R185). -/
def execGearc (s : State) : Host.Outcome State Fault Refusal := (gearcBody params s).finish

/-- GEARS (R186). -/
def execGears (s : State) : Host.Outcome State Fault Refusal := (gearsBody params s).finish

/-- PTRAIN (R188). -/
def execPtrain (s : State) : Host.Outcome State Fault Refusal := (ptrainBody params s).finish

/-- TSPD i (R192). -/
def execTspd (i : Int) (s : State) : Host.Outcome State Fault Refusal := (tspdBody params i s).finish

/-- TSLIP i (R195). -/
def execTslip (i : Int) (s : State) : Host.Outcome State Fault Refusal := (tslipBody params i s).finish

/-- FLAG n (R200). -/
def execFlag (i : Int) (s : State) : Host.Outcome State Fault Refusal := (flagBody params i s).finish

end Sys2Proof.Machine
end

