-- ==== Sys2Proof/Machine/Pipeline.lean ====
section
/-! DEFINITION. The pipeline family: VDET, IVDER, KEYLD, LDBUF, CRYPT, DEMARSH and DECODE. Each body takes the
configuration; each meaning runs it with the default one. -/

namespace Sys2Proof.Machine

/-- `Classify(L)`, tested in the order A, B, C (R110). -/
def classify (c : Config) (len : Nat) : Option Variant :=
  if len = c.size .a then some .a
  else if len = c.size .b then some .b
  else if len = c.size .c then some .c
  else none

/-- VDET's body (R111). -/
def vdetBody (c : Config) (s : State) : Body :=
  match classify c s.rxLen.toNat with
  | none => .raised .unrecognizedVariant (s.setVariant none)
  | some v => .done (s.setVariant (some v))

/-- The 8 bytes of `DeriveIV`: the mixed seed, then the raw seed, each low to high (R120). -/
def deriveIv (c : Config) (v : Variant) (rawSeed : Word) : Vector Byte 8 :=
  fixedBytes 8 (bytesLE32 (rawSeed ^^^ c.mix v) ++ bytesLE32 rawSeed)

/-- IVDER's body (R121): the variant, then the length, then the seed. -/
def ivderBody (c : Config) (s : State) : Body :=
  match s.variant with
  | none => .raised .unrecognizedVariant s
  | some v =>
    if s.rxLen.toNat < c.seedOff + 4 then .raised .truncatedSeed s
    else .reading (seedBytes c s) fun d => .done ((s.setSeed (le32 d)).setIv (deriveIv c v (le32 d)))

/-- KEYLD's body (R133). -/
def keyldBody (s : State) : Body :=
  .reading (keyStringRead s) fun d => .done (s.setKey (formatKey d))

/-- Stage 3 of DECODE: `KEY <- K_PROTO` (R210). -/
def protocolKeyBody (c : Config) (s : State) : Body := .done (s.setKey (keyProto c))

/-- LDBUF's body (R134). Bytes of BUF at and above the new LEN hold no value afterwards. -/
def ldbufBody (c : Config) (s : State) : Body :=
  if c.bufCap < s.rxLen.toNat then .raised .lengthOverflow s
  else .reading (datagram s) fun d => .done (s.setBuf s.rxLen (Memory.ofBytes d))

/-- CRYPT's body (R146). -/
def cryptBody (c : Config) (s : State) : Body :=
  .reading (bufferBytes s) fun d => .done (s.setBuf s.len (s.buf.write 0 (cryptBytes c s.key s.iv d)))

/-- The copy and the tag writes of DEMARSH, after its tests (R161, R162). Bytes of FRAME above the new frame
keep their content (R163). -/
def acceptFrame (v : Variant) (s : State) : Body :=
  .reading (bufferBytes s) fun d => .done (s.setFrame (s.frame.write 0 d) v)

/-- DEMARSH's body (R161): the variant, the size, the signature, then the copy. -/
def demarshBody (c : Config) (s : State) : Body :=
  match s.variant with
  | none => .raised .unrecognizedVariant s
  | some v =>
    if s.len.toNat ≠ c.size v then .raised .sizeMismatch s
    else if c.hasMagic v then
      .reading (bufferMagic s) fun m =>
        if m ≠ c.magic then .raised .signatureMismatch s else acceptFrame v s
    else acceptFrame v s

/-- DECODE's body: the six stages, each run only if the one before raised nothing (R210, R228). -/
def decodeBody (c : Config) (s : State) : Body :=
  (((((vdetBody c s).andThen (ivderBody c)).andThen (protocolKeyBody c)).andThen (ldbufBody c)).andThen
    (cryptBody c)).andThen (demarshBody c)

/-- VDET (R111). -/
def execVdet (s : State) : Host.Outcome State Fault Refusal := (vdetBody params s).finish

/-- IVDER (R121). -/
def execIvder (s : State) : Host.Outcome State Fault Refusal := (ivderBody params s).finish

/-- KEYLD (R133). -/
def execKeyld (s : State) : Host.Outcome State Fault Refusal := (keyldBody s).finish

/-- LDBUF (R134). -/
def execLdbuf (s : State) : Host.Outcome State Fault Refusal := (ldbufBody params s).finish

/-- CRYPT (R146). -/
def execCrypt (s : State) : Host.Outcome State Fault Refusal := (cryptBody params s).finish

/-- DEMARSH (R161). -/
def execDemarsh (s : State) : Host.Outcome State Fault Refusal := (demarshBody params s).finish

/-- DECODE (R210). -/
def execDecode (s : State) : Host.Outcome State Fault Refusal := (decodeBody params s).finish

end Sys2Proof.Machine
end

