-- ==== Sys2Proof/Machine/Dispatch.lean ====
section
/-! DEFINITION. One arm per command (R94), each one call of its meaning. -/

namespace Sys2Proof.Machine

/-- Executing one command as one atomic step (R70, R75). -/
def exec (i : Instr) (s : State) : Host.Outcome State Fault Refusal :=
  match i with
  | .decode => Sys2Proof.Machine.execDecode s
  | .vdet => Sys2Proof.Machine.execVdet s
  | .ivder => Sys2Proof.Machine.execIvder s
  | .keyld => Sys2Proof.Machine.execKeyld s
  | .ldbuf => Sys2Proof.Machine.execLdbuf s
  | .crypt => Sys2Proof.Machine.execCrypt s
  | .demarsh => Sys2Proof.Machine.execDemarsh s
  | .gearc => Sys2Proof.Machine.execGearc s
  | .gears => Sys2Proof.Machine.execGears s
  | .ptrain => Sys2Proof.Machine.execPtrain s
  | .tspd idx => Sys2Proof.Machine.execTspd idx s
  | .tslip idx => Sys2Proof.Machine.execTslip idx s
  | .flag idx => Sys2Proof.Machine.execFlag idx s

end Sys2Proof.Machine
end

