-- ==== Sys2Proof/Machine/HostPort.lean ====
section
/-! DEFINITION. The host actions (R66 to R71, R74): what each does to the state, and which reads are admitted. -/

namespace Sys2Proof.Machine

/-- The outcome of one host action. -/
abbrev HostOutcome := Host.Outcome State Fault Refusal

/-- `HDELIVER D` (R66): bytes beyond RX_CAP are dropped, bytes of RX at and above them lose their value. -/
def hostDeliver (c : Config) (d : List Byte) (s : State) : HostOutcome :=
  if d.length ≤ 65535 then .next (s.setRx (BitVec.ofNat 16 d.length) (Memory.ofBytes (d.take c.rxCap)))
  else .refused .deliverTooLong

/-- `HKEYSTR S` (R67). -/
def hostKeyStr (c : Config) (d : List Byte) (s : State) : HostOutcome :=
  if d.length ≤ 255 then .next (s.setKstr (BitVec.ofNat 8 d.length) (Memory.ofBytes (d.take c.kstrCap)))
  else .refused .keyStringTooLong

/-- `HWRITE EXPVAR, v` (R69): 0 is ignored. -/
def hostWriteExpVar (v : BitVec 2) (s : State) : HostOutcome :=
  match variantOfCode v with
  | some x => .next (s.setExpVar x)
  | none => .next s

/-- `HWRITE FLAGMAX, v` (R69): 17 to 31 are ignored. -/
def hostWriteFlagMax (v : BitVec 5) (s : State) : HostOutcome :=
  if v.toNat ≤ 16 then .next (s.setFlagMax v) else .next s

/-- An illegal word: `raise IllegalCommand`, nothing else (R95, R226). -/
def illegalBody (s : State) : Body := .raised .illegalCommand s

/-- `HCMD w` (R70). -/
def hostCmd (w : Half) (s : State) : HostOutcome :=
  match decodeWord w with
  | .ok i => exec i s
  | .error _ => (illegalBody s).finish

/-- `HREAD r` (R71). -/
def regAnswer (r : HostReg) (s : State) : HostAnswer :=
  match r with
  | .rxLen => .reg (s.rxLen.setWidth 32)
  | .ksLen => .reg (s.ksLen.setWidth 32)
  | .seed => .reg s.seed
  | .res => .reg s.res
  | .status => .reg ((statusWord s).setWidth 32)
  | .expVar => .reg ((variantCode s.expVar).setWidth 32)
  | .flagMax => .reg (s.flagMax.setWidth 32)
  | .iv => .bytes s.iv.toList
  | .key => .bytes s.key.toList

/-- The answer to an admitted read; the read changes nothing else (R63). -/
def answerRead (r : Except Fault HostAnswer) (s : State) : HostOutcome :=
  match r with
  | .ok v => .next (s.setAnswer v)
  | .error f => .fault f

/-- `HREADBUF a, n`: requires `a + n <= LEN` (R71). -/
def hostReadBuf (a n : Nat) (s : State) : HostOutcome :=
  if a + n ≤ s.len.toNat then answerRead ((readSpace .buf s.buf a n).map .bytes) s
  else .refused .readBufNotAdmitted

/-- `SIZE(FVARIANT)` while a frame is held, else `none` (R71's requirement). -/
def heldSize (c : Config) (s : State) : Option Nat :=
  if s.fValid then s.fVariant.map c.size else none

/-- `HREADFRAME a, n`: requires FVALID = 1 and `a + n <= SIZE(FVARIANT)` (R71). -/
def hostReadFrame (c : Config) (a n : Nat) (s : State) : HostOutcome :=
  match heldSize c s with
  | some size =>
    if a + n ≤ size then answerRead ((readSpace .frame s.frame a n).map .bytes) s
    else .refused .readFrameNotAdmitted
  | none => .refused .readFrameNotAdmitted

/-- `HFIELD name`, element `i` (R71, R168, log 13): the field must lie in the frame and have that element. -/
def hostField (c : Config) (name : FieldName) (i : Nat) (s : State) : HostOutcome :=
  let p := c.layout name
  match heldSize c s with
  | some size =>
    if i < p.count ∧ p.off + p.count * fieldSize p.type ≤ size then
      answerRead ((readField c s name i).map (fieldAnswer p.type)) s
    else .refused .fieldNotAdmitted
  | none => .refused .fieldNotAdmitted

/-- `HRESET` (R74, R250): every state element to R39's value. The host's remaining actions, what it last read and
the count of draws are not state of the block and stay (log 1, 2, 4). -/
def hostReset (s : State) : HostOutcome :=
  .next { State.reset with pending := s.pending, answer := s.answer, draw := s.draw }

/-- One host action (R66 to R71, R74). -/
def perform (a : HostAction) (s : State) : HostOutcome :=
  match a with
  | .deliver d => hostDeliver params d s
  | .keyStr d => hostKeyStr params d s
  | .writeIv v => .next (s.setIv v)
  | .writeExpVar v => hostWriteExpVar v s
  | .writeFlagMax v => hostWriteFlagMax v s
  | .cmd w => hostCmd w s
  | .read r => .next (s.setAnswer (regAnswer r s))
  | .readBuf a n => hostReadBuf a n s
  | .readFrame a n => hostReadFrame params a n s
  | .field name i => hostField params name i s
  | .reset => hostReset s

/-- The next host action of the run, or, with none left, an idle block: nothing happens of itself (R73, R20, log 1). -/
def performNext (s : State) : HostOutcome :=
  match s.pending with
  | [] => .next s
  | a :: rest => perform a (s.setPending rest)

/-- The keep-alive byte the transport sends to request the expected variant (R33, R112). -/
def keepAliveByte (c : Config) (s : State) : Byte := c.kaCode s.expVar

end Sys2Proof.Machine
end

