-- ==== Sys2Proof/Machine/Step.lean ====
section
/-! DEFINITION. One step: the next host action of the run (R73, R75). -/

namespace Sys2Proof.Machine

/-- One step of the machine. -/
def step (s : State) : Host.Outcome State Fault Refusal := performNext s

/-- `s` with the command of a table word as the host's next action, an `HCMD` (R31, R70, log 1). -/
def State.withFetchWord (s : State) (nbits w : Nat) : State :=
  s.setPending (.cmd (tableWord nbits w) :: s.pending)

end Sys2Proof.Machine
end

