-- ==== Sys2Proof/Safety.lean ====
section
/-! DEFINITION. The invariant of the machine, what a safe step is, and the terms the statements use. -/

namespace Sys2Proof.Machine

/-- Every space is in canonical form. -/
structure State.Canonical (s : State) : Prop where
  rx : s.rx.wf
  kstr : s.kstr.wf
  buf : s.buf.wf
  frame : s.frame.wf

/-- What R22, R23, R28, R29, R32 and R34 say always holds. -/
structure State.Inv (s : State) : Prop where
  canonical : s.Canonical
  /-- "Only RX[0..min(RXLEN, RX_CAP)-1] hold a value" (R22). -/
  rx : ∀ a, (s.rx.read a).isSome ↔ a < min s.rxLen.toNat params.rxCap
  /-- "Only KSTR[0..min(KSLEN, KSTR_CAP)-1] hold a value" (R23). -/
  kstr : ∀ a, (s.kstr.read a).isSome ↔ a < min s.ksLen.toNat params.kstrCap
  /-- "Only BUF[0..LEN-1] hold a value" (R28). -/
  buf : ∀ a, (s.buf.read a).isSome ↔ a < s.len.toNat
  /-- "LEN <= BUF_CAP always" (R28). -/
  len : s.len.toNat ≤ params.bufCap
  /-- FVARIANT is "0 only while FVALID = 0" (R32), and a variant only while FVALID = 1. -/
  tag : s.fValid = s.fVariant.isSome
  /-- The bytes of the current frame hold a value (R29). -/
  frame : ∀ v, s.fVariant = some v → ∀ a, a < params.size v → (s.frame.read a).isSome
  /-- FRAME has FRAME_CAP bytes (R29, R60). -/
  frameCap : ∀ a, (s.frame.read a).isSome → a < Sys2Proof.Machine.frameCap params
  /-- FLAGMAX's legal values are 0..16 (R34). -/
  flagMax : s.flagMax.toNat ≤ 16

/-- A safe state: its next step stops with no fault (R73: the machine never halts of itself). -/
def Safe (s : State) : Prop := ∀ f, step s ≠ .fault f

/-- The commands in order, each issued only if the one before left ERR = 0 (R98, R212). -/
def issueWhileOk : List Instr → State → Host.Outcome State Fault Refusal
  | [], s => .next s
  | i :: is, s =>
    match exec i s with
    | .next t => if t.err = .none then issueWhileOk is t else .next t
    | .fault f => .fault f
    | .refused r => .refused r

/-- The bytes at `o..o+3` hold the 32-bit value `w`, least significant byte first (R9, R61). -/
def holdsWord (m : Memory) (o : Nat) (w : Word) : Prop := ∀ i, i < 4 → m.read (o + i) = some (w.extractLsb' (8 * i) 8)

/-- The bytes at `o..o+1` hold the 16-bit value `h`, least significant byte first (R9, R61). -/
def holdsHalf (m : Memory) (o : Nat) (h : Half) : Prop := ∀ i, i < 2 → m.read (o + i) = some (h.extractLsb' (8 * i) 8)

/-- The accessor group of R94. -/
def isAccessor : Instr → Bool
  | .decode | .vdet | .ivder | .keyld | .ldbuf | .crypt | .demarsh => false
  | .gearc | .gears | .ptrain | .tspd _ | .tslip _ | .flag _ => true

/-- R229: which errors a command can raise. -/
def mayRaise : Instr → List ErrCode
  | .decode => [.unrecognizedVariant, .signatureMismatch]
  | .vdet => [.unrecognizedVariant]
  | .ivder => [.unrecognizedVariant, .truncatedSeed]
  | .keyld => []
  | .ldbuf => [.lengthOverflow]
  | .crypt => []
  | .demarsh => [.unrecognizedVariant, .signatureMismatch, .sizeMismatch]
  | .gearc | .gears | .ptrain | .tspd _ | .tslip _ | .flag _ => [.noFrame]

/-- `f` applied to the next state, if there is one. -/
def mapNext (f : State → State) : Host.Outcome State Fault Refusal → Host.Outcome State Fault Refusal
  | .next s => .next (f s)
  | .fault e => .fault e
  | .refused r => .refused r

/-- What a field of type `t` means whose unsigned little-endian value is `v` (R168): unsigned types as they stand,
signed types in two's complement, binary32 as the bit pattern. -/
def fieldMeaning (t : FieldType) (v : Nat) : HostAnswer :=
  match t with
  | .u8 | .u16 | .u32 => .int v
  | .s16 => .int (if v < 2 ^ 15 then v else (v : Int) - 2 ^ 16)
  | .s32 => .int (if v < 2 ^ 31 then v else (v : Int) - 2 ^ 32)
  | .f32 => .float (BitVec.ofNat 32 v)

/-- A finite binary32 pattern: neither an infinity nor a NaN. -/
def f32Finite (a : Word) : Prop := f32Exp a ≠ 255

/-- The rational number a finite binary32 pattern stands for. -/
def f32Value (a : Word) : ℚ := (if f32Sign a then -1 else 1) * (f32Sig a : ℚ) * (2 : ℚ) ^ f32Scale a

/-- A quiet NaN: exponent all ones and bit 22 set (U6). -/
def f32QuietNaN (a : Word) : Prop := f32Exp a = 255 ∧ a.getLsbD 22 = true

/-- `r` is the binary32 pattern nearest to `x`, ties to even: no finite pattern is nearer, and where another is
as near, the significand of `r` is even (R181, roundTiesToEven). -/
def f32NearestEven (r : Word) (x : ℚ) : Prop :=
  f32Finite r ∧ ∀ c, f32Finite c →
    |f32Value r - x| ≤ |f32Value c - x| ∧
    (|f32Value r - x| = |f32Value c - x| → f32Value c ≠ f32Value r → f32Sig r % 2 = 0)

/-- The least magnitude that rounds to an infinity: half a unit above the largest finite value. -/
def f32Overflow : ℚ := 2 ^ 128 - 2 ^ 103

end Sys2Proof.Machine
end

