-- ==== Sys2Proof/Certificates/Slice0/Obligations.lean ====
section
/-! DEFINITION. The statements for the provers. A statement gives an instruction's next state as a whole (an
equation between states), so that every register, flag and byte it does not name is unchanged. Where a statement
rests on a choice of the model, its docstring names the log entry. -/

open Sys2Proof Sys2Proof.Machine

/-! ### Encoding -/

/-- R90 to R94, R97: decoding the word of a well-formed command gives the command back. -/
def Obligations.DecodeOfEncodeIsTheCommand : Prop := ∀ i : Instr, i.wf = true → decodeWord (encode i) = .ok i

/-- R90 to R93: every word the decoder accepts is the word of the well-formed command it gives. -/
def Obligations.EncodeOfDecodeIsTheWord : Prop :=
  ∀ (w : Half) (i : Instr), decodeWord w = .ok i → i.wf = true ∧ encode i = w

/-- R94, R95: the legal words are exactly those a row of the opcode map matches. -/
def Obligations.LegalWordsAreTheRowsOfTheOpcodeMap : Prop :=
  ∀ w : Half, (∃ i, decodeWord w = .ok i) ↔
    (w ∈ [0x0100, 0x0200, 0x0300, 0x0400, 0x0500, 0x0600, 0x0700, 0x1000, 0x1100, 0x1200] ∨
      w &&& 0xFF00 ∈ [0x1300, 0x1400, 0x1500])

/-- R93, R94, R97: some words written out. -/
def Obligations.SampleWordsDecode : Prop :=
  decodeWord 0x0100 = .ok .decode ∧ decodeWord 0x0600 = .ok .crypt ∧ decodeWord 0x1200 = .ok .ptrain ∧
  decodeWord 0x1303 = .ok (.tspd 3) ∧ decodeWord 0x14FF = .ok (.tslip (-1)) ∧ decodeWord 0x1580 = .ok (.flag (-128))

/-! ### The step, the host's actions and reset -/

/-- R70, R73, R75: a step performs the host's next action; where that is a word that decodes to a command, the step
is `exec` of the command on the state with the action taken off the list; with no action left, nothing happens.
That the host's actions stand in `pending` is the model's choice (log 1). -/
def Obligations.StepRunsTheDecodedCommand : Prop :=
  ∀ s : State,
    (∀ (a : HostAction) (rest : List HostAction), s.pending = a :: rest → step s = perform a { s with pending := rest }) ∧
    (∀ (w : Half) (rest : List HostAction) (i : Instr), s.pending = .cmd w :: rest → decodeWord w = .ok i →
      step s = exec i { s with pending := rest }) ∧
    (s.pending = [] → step s = .next s)

/-- R95, R226: a word no row matches sets ERR to IllegalCommand and changes nothing else. -/
def Obligations.IllegalWordRaisesIllegalCommandOnly : Prop :=
  ∀ (s : State) (w : Half),
    (¬ (w ∈ [0x0100, 0x0200, 0x0300, 0x0400, 0x0500, 0x0600, 0x0700, 0x1000, 0x1100, 0x1200] ∨
      w &&& 0xFF00 ∈ [0x1300, 0x1400, 0x1500])) →
    perform (.cmd w) s = .next { s with err := .illegalCommand }

/-- R66: HDELIVER. Longer sequences are not host actions and are refused (log 14). -/
def Obligations.DeliverStoresTheDatagram : Prop :=
  ∀ (s : State) (d : List Byte),
    (d.length ≤ 65535 → ∃ t, perform (.deliver d) s = .next t ∧ t = { s with rxLen := t.rxLen, rx := t.rx } ∧
      t.rxLen.toNat = d.length ∧ ∀ a, t.rx.read a = if a < 4096 then d[a]? else none) ∧
    (65535 < d.length → perform (.deliver d) s = .refused .deliverTooLong)

/-- R67: HKEYSTR. Longer sequences are not host actions and are refused (log 14). -/
def Obligations.KeyStringIsStored : Prop :=
  ∀ (s : State) (d : List Byte),
    (d.length ≤ 255 → ∃ t, perform (.keyStr d) s = .next t ∧ t = { s with ksLen := t.ksLen, kstr := t.kstr } ∧
      t.ksLen.toNat = d.length ∧ ∀ a, t.kstr.read a = if a < 64 then d[a]? else none) ∧
    (255 < d.length → perform (.keyStr d) s = .refused .keyStringTooLong)

/-- R68, R69, R33, R34: the register writes of the host; an illegal value is ignored. -/
def Obligations.HostRegisterWrites : Prop :=
  ∀ s : State,
    (∀ v, perform (.writeIv v) s = .next { s with iv := v }) ∧
    perform (.writeExpVar 0) s = .next s ∧
    perform (.writeExpVar 1) s = .next { s with expVar := .a } ∧
    perform (.writeExpVar 2) s = .next { s with expVar := .b } ∧
    perform (.writeExpVar 3) s = .next { s with expVar := .c } ∧
    (∀ v : BitVec 5, v.toNat ≤ 16 → perform (.writeFlagMax v) s = .next { s with flagMax := v }) ∧
    (∀ v : BitVec 5, 16 < v.toNat → perform (.writeFlagMax v) s = .next s)

/-- R71, R63: an admitted read of BUF or FRAME returns the bytes and changes nothing; any other is refused. What a
read returned is kept in the model's own field `answer` (log 2). -/
def Obligations.AdmittedReadsReturnTheBytes : Prop :=
  ∀ (s : State) (a n : Nat), s.Inv →
    (a + n ≤ s.len.toNat → ∃ bs, perform (.readBuf a n) s = .next { s with answer := some (.bytes bs) } ∧
      bs.length = n ∧ ∀ i, i < n → s.buf.read (a + i) = bs[i]?) ∧
    (s.len.toNat < a + n → perform (.readBuf a n) s = .refused .readBufNotAdmitted) ∧
    (∀ v, s.fVariant = some v → a + n ≤ params.size v →
      ∃ bs, perform (.readFrame a n) s = .next { s with answer := some (.bytes bs) } ∧
        bs.length = n ∧ ∀ i, i < n → s.frame.read (a + i) = bs[i]?) ∧
    (∀ v, s.fVariant = some v → params.size v < a + n → perform (.readFrame a n) s = .refused .readFrameNotAdmitted) ∧
    (s.fValid = false → perform (.readFrame a n) s = .refused .readFrameNotAdmitted)

/-- R71, R13: HREAD of a register answers the register, EXPVAR by its code and STATUS assembled from its fields
(`StatusWordFields`); nothing changes but the model's own field `answer` (log 2). -/
def Obligations.RegisterReadsAnswerTheRegister : Prop :=
  ∀ s : State,
    perform (.read .rxLen) s = .next { s with answer := some (.reg (s.rxLen.setWidth 32)) } ∧
    perform (.read .ksLen) s = .next { s with answer := some (.reg (s.ksLen.setWidth 32)) } ∧
    perform (.read .seed) s = .next { s with answer := some (.reg s.seed) } ∧
    perform (.read .res) s = .next { s with answer := some (.reg s.res) } ∧
    perform (.read .status) s = .next { s with answer := some (.reg ((statusWord s).setWidth 32)) } ∧
    (s.expVar = .a → perform (.read .expVar) s = .next { s with answer := some (.reg 1) }) ∧
    (s.expVar = .b → perform (.read .expVar) s = .next { s with answer := some (.reg 2) }) ∧
    (s.expVar = .c → perform (.read .expVar) s = .next { s with answer := some (.reg 3) }) ∧
    perform (.read .flagMax) s = .next { s with answer := some (.reg (s.flagMax.setWidth 32)) } ∧
    perform (.read .iv) s = .next { s with answer := some (.bytes s.iv.toList) } ∧
    perform (.read .key) s = .next { s with answer := some (.bytes s.key.toList) }

/-- R71, R168: HFIELD, for every configuration, so that nothing rests on a row of the default LAYOUT (R166): with a
frame held, an element of a field that lies in the frame answers its bytes assembled little-endian and read by the
field's type; an element at or above the field's count, a field that reaches beyond SIZE(FVARIANT), and any field while
no frame is held, is refused. The machine runs it at `params`. There the gear byte and the tails are named: tailB is
refused under VariantA, tailC under VariantA and VariantB (R167; log 8). The element index and the answer's form are
the model's (log 13, log 2). -/
def Obligations.FieldReadsComeFromTheFrame : Prop :=
  (∀ (c : Config) (s : State) (v : Variant) (name : FieldName) (i : Nat),
    s.frame.wf → s.fValid = true → s.fVariant = some v →
    (∀ bs : List Byte, i < (c.layout name).count →
      (c.layout name).off + (c.layout name).count * fieldSize (c.layout name).type ≤ c.size v →
      bs.length = fieldSize (c.layout name).type →
      (∀ j, j < fieldSize (c.layout name).type →
        s.frame.read ((c.layout name).off + i * fieldSize (c.layout name).type + j) = bs[j]?) →
      hostField c name i s = .next { s with answer := some (fieldMeaning (c.layout name).type (leValue bs)) }) ∧
    ((c.layout name).count ≤ i → hostField c name i s = .refused .fieldNotAdmitted) ∧
    (c.size v < (c.layout name).off + (c.layout name).count * fieldSize (c.layout name).type →
      hostField c name i s = .refused .fieldNotAdmitted)) ∧
  (∀ (c : Config) (s : State) (name : FieldName) (i : Nat), s.fValid = false →
    hostField c name i s = .refused .fieldNotAdmitted) ∧
  ∀ s : State,
    (∀ (name : FieldName) (i : Nat), perform (.field name i) s = hostField params name i s) ∧
    (∀ g : Byte, s.Inv → s.fValid = true → s.frame.read 0x90 = some g →
      perform (.field .gears 0) s = .next { s with answer := some (.int g.toNat) }) ∧
    (s.fVariant = some .a → ∀ i, perform (.field .tailB i) s = .refused .fieldNotAdmitted) ∧
    (s.fVariant = some .a ∨ s.fVariant = some .b → ∀ i, perform (.field .tailC i) s = .refused .fieldNotAdmitted)

/-- R32, R220, R13: the fields of STATUS, each with its numeric codes, and bits 15:9 zero. -/
def Obligations.StatusWordFields : Prop :=
  ∀ s : State,
    (s.err = .none → (statusWord s).extractLsb' 0 4 = 0) ∧
    (s.err = .unrecognizedVariant → (statusWord s).extractLsb' 0 4 = 1) ∧
    (s.err = .truncatedSeed → (statusWord s).extractLsb' 0 4 = 2) ∧
    (s.err = .signatureMismatch → (statusWord s).extractLsb' 0 4 = 3) ∧
    (s.err = .sizeMismatch → (statusWord s).extractLsb' 0 4 = 4) ∧
    (s.err = .noFrame → (statusWord s).extractLsb' 0 4 = 5) ∧
    (s.err = .illegalCommand → (statusWord s).extractLsb' 0 4 = 6) ∧
    (s.err = .lengthOverflow → (statusWord s).extractLsb' 0 4 = 7) ∧
    (s.variant = none → (statusWord s).extractLsb' 4 2 = 0) ∧
    (s.variant = some .a → (statusWord s).extractLsb' 4 2 = 1) ∧
    (s.variant = some .b → (statusWord s).extractLsb' 4 2 = 2) ∧
    (s.variant = some .c → (statusWord s).extractLsb' 4 2 = 3) ∧
    (s.fVariant = none → (statusWord s).extractLsb' 6 2 = 0) ∧
    (s.fVariant = some .a → (statusWord s).extractLsb' 6 2 = 1) ∧
    (s.fVariant = some .b → (statusWord s).extractLsb' 6 2 = 2) ∧
    (s.fVariant = some .c → (statusWord s).extractLsb' 6 2 = 3) ∧
    (statusWord s).getLsbD 8 = s.fValid ∧ (statusWord s).extractLsb' 9 7 = 0

/-- R39: the registers after reset. -/
def Obligations.ResetState : Prop :=
  State.reset.rxLen = 0 ∧ State.reset.ksLen = 0 ∧ State.reset.iv.toList = [0, 0, 0, 0, 0, 0, 0, 0] ∧
  State.reset.seed = 0 ∧
  State.reset.key.toList =
    [0x53, 0x69, 0x6D, 0x75, 0x6C, 0x61, 0x74, 0x6F, 0x72, 0x20, 0x49, 0x6E, 0x74, 0x65, 0x72, 0x66,
      0x61, 0x63, 0x65, 0x20, 0x50, 0x61, 0x63, 0x6B, 0x65, 0x74, 0x20, 0x47, 0x54, 0x37, 0x20, 0x76] ∧
  State.reset.len = 0 ∧ State.reset.err = .none ∧ State.reset.variant = none ∧ State.reset.fVariant = none ∧
  State.reset.fValid = false ∧ State.reset.res = 0 ∧ State.reset.expVar = .a ∧ State.reset.flagMax = 12 ∧
  ∀ a, State.reset.rx.read a = none ∧ State.reset.kstr.read a = none ∧ State.reset.buf.read a = none ∧
    State.reset.frame.read a = none

/-- R74, R250: HRESET gives every state element its value of R39 (the model's own three fields stay: log 1, 2, 4). -/
def Obligations.HostResetRestoresEveryRegister : Prop :=
  ∀ s : State, perform .reset s =
    .next { State.reset with pending := s.pending, answer := s.answer, draw := s.draw }

/-! ### Invariants of the whole machine -/

/-- The invariant of the spaces and the tag holds after reset (R22, R23, R28, R29, R32, R34). -/
def Obligations.ResetMeetsTheInvariant : Prop := State.reset.Inv

/-- R22, R23, R28, R29, R32, R34: every step, from every state that meets the invariant, keeps it. -/
def Obligations.StepKeepsTheInvariant : Prop := ∀ s t : State, s.Inv → step s = .next t → t.Inv

/-- Every step keeps the canonical form of the four spaces. -/
def Obligations.StepKeepsMemoryCanonical : Prop :=
  ∀ s t : State, s.Canonical → step s = .next t → t.Canonical

/-- R73, R22, R23, R28: no step reads a byte that holds no value. -/
def Obligations.StepNeverFaults : Prop := ∀ s : State, s.Inv → Safe s

/-- R73: every command terminates, in a next state. -/
def Obligations.EveryCommandAnswersANextState : Prop := ∀ (i : Instr) (s : State), s.Inv → ∃ t, exec i s = .next t

/-- R38, R22: no command writes RX, RXLEN, KSTR, KSLEN, EXPVAR or FLAGMAX (nor the model's host fields). -/
def Obligations.CommandsLeaveTheHostsRegisters : Prop :=
  ∀ (i : Instr) (s t : State), exec i s = .next t →
    t.rxLen = s.rxLen ∧ t.rx = s.rx ∧ t.ksLen = s.ksLen ∧ t.kstr = s.kstr ∧ t.expVar = s.expVar ∧
      t.flagMax = s.flagMax ∧ t.pending = s.pending ∧ t.answer = s.answer

/-- R162, R231, R30: a command that raises leaves FRAME, its tag, FVALID and RES as they were. -/
def Obligations.RaisingCommandLeavesTheFrame : Prop :=
  ∀ (i : Instr) (s t : State), exec i s = .next t → t.err ≠ .none →
    t.frame = s.frame ∧ t.fVariant = s.fVariant ∧ t.fValid = s.fValid ∧ t.res = s.res

/-- R229: a command raises only the errors of its row, and a raising accessor, IVDER, LDBUF or DEMARSH writes ERR
only. -/
def Obligations.CommandsRaiseOnlyTheErrorsOfTheTable : Prop :=
  ∀ (i : Instr) (s t : State), exec i s = .next t →
    (t.err = .none ∨ t.err ∈ mayRaise i) ∧
    (t.err ≠ .none → i ≠ .decode → i ≠ .vdet → t = { s with err := t.err })

/-- R263, R32: every word written to CMD, an illegal one among them, overwrites ERR without reading it. -/
def Obligations.EveryCommandOverwritesErr : Prop :=
  ∀ (w : Half) (s : State) (e : ErrCode), perform (.cmd w) { s with err := e } = perform (.cmd w) s

/-- R33: no command reads EXPVAR, and none writes it. -/
def Obligations.CommandsDoNotReadExpVar : Prop :=
  ∀ (i : Instr) (s : State) (v : Variant),
    exec i { s with expVar := v } = mapNext (fun t => { t with expVar := v }) (exec i s)

/-- R250, R32: FVALID returns to 0 by reset only. -/
def Obligations.OnlyResetDiscardsAFrame : Prop :=
  ∀ s t : State, step s = .next t → s.fValid = true → t.fValid = true ∨ s.pending.head? = some .reset

/-- R180: an accessor writes RES and ERR only (and the model's draw counter, log 4). -/
def Obligations.AccessorsWriteResAndErrOnly : Prop :=
  ∀ (i : Instr) (s t : State), isAccessor i = true → exec i s = .next t →
    t = { s with res := t.res, err := t.err, draw := t.draw }

/-! ### Memory -/

/-- R8: after a write, the bytes written read back, every other byte reads as before, and the canonical form is
kept. -/
def Obligations.ReadAfterWrite : Prop :=
  ∀ (m : Memory) (a : Nat) (bs : List Byte), m.wf → (m.write a bs).wf ∧
    ∀ k, (m.write a bs).read k = if a ≤ k ∧ k < a + bs.length then bs[k - a]? else m.read k

/-- R9: little-endian assembly of four bytes, and its inverse. -/
def Obligations.LittleEndianAssembly : Prop :=
  (∀ b0 b1 b2 b3 : Byte, (le32 [b0, b1, b2, b3]).toNat =
    b0.toNat + 2 ^ 8 * b1.toNat + 2 ^ 16 * b2.toNat + 2 ^ 24 * b3.toNat) ∧
  ∀ v : Word, bytesLE32 v = [v.extractLsb' 0 8, v.extractLsb' 8 8, v.extractLsb' 16 8, v.extractLsb' 24 8]

/-! ### Version Detector and IV Deriver -/

/-- R110, R111: VDET, with its word. -/
def Obligations.VdetClassifiesByExactLength : Prop :=
  decodeWord 0x0200 = .ok .vdet ∧ ∀ s : State,
    (s.rxLen.toNat = 296 → exec .vdet s = .next { s with variant := some .a, err := .none }) ∧
    (s.rxLen.toNat = 316 → exec .vdet s = .next { s with variant := some .b, err := .none }) ∧
    (s.rxLen.toNat = 344 → exec .vdet s = .next { s with variant := some .c, err := .none }) ∧
    (s.rxLen.toNat ≠ 296 → s.rxLen.toNat ≠ 316 → s.rxLen.toNat ≠ 344 →
      exec .vdet s = .next { s with variant := none, err := .unrecognizedVariant })

/-- R120, R121, R222: IVDER, with its word: no variant, then a datagram too short, raise and write nothing else;
otherwise SEED and IV are written. `params.mix` is MIX, whose default values log 6 names. -/
def Obligations.IvderDerivesSeedAndIvOrRaises : Prop :=
  decodeWord 0x0300 = .ok .ivder ∧ ∀ s : State,
    (s.variant = none → exec .ivder s = .next { s with err := .unrecognizedVariant }) ∧
    (∀ v, s.variant = some v → s.rxLen.toNat < 68 → exec .ivder s = .next { s with err := .truncatedSeed }) ∧
    (∀ (v : Variant) (seed : Word), s.rx.wf → s.variant = some v → 68 ≤ s.rxLen.toNat → holdsWord s.rx 0x40 seed →
      ∃ t, exec .ivder s = .next t ∧ t = { s with seed := seed, iv := t.iv, err := .none } ∧
        t.iv.toList =
          [(seed ^^^ params.mix v).extractLsb' 0 8, (seed ^^^ params.mix v).extractLsb' 8 8,
            (seed ^^^ params.mix v).extractLsb' 16 8, (seed ^^^ params.mix v).extractLsb' 24 8,
            seed.extractLsb' 0 8, seed.extractLsb' 8 8, seed.extractLsb' 16 8, seed.extractLsb' 24 8])

/-- R122, R120: under any configuration that meets R6, different variants give different IVs for one seed, and the
last four bytes do not depend on the variant. -/
def Obligations.DifferentVariantsGiveDifferentIvs : Prop :=
  ∀ (c : Config) (v w : Variant) (seed : Word), c.Valid →
    (v ≠ w → deriveIv c v seed ≠ deriveIv c w seed) ∧
    (deriveIv c v seed).toList.drop 4 = (deriveIv c w seed).toList.drop 4

/-! ### Key, working buffer and cipher -/

/-- R133, R131: KEYLD, with its word. -/
def Obligations.KeyldFormatsTheKeyString : Prop :=
  decodeWord 0x0400 = .ok .keyld ∧ ∀ s : State, s.Inv → ∃ t, exec .keyld s = .next t ∧ t = { s with key := t.key, err := .none } ∧
    ∀ (i : Nat) (h : i < 32), some (t.key[i]'h) = if i < s.ksLen.toNat then s.kstr.read i else some 0x00

/-- R131: FormatKey of a byte sequence of any length. -/
def Obligations.FormatKeyTruncatesOrFills : Prop :=
  ∀ (x : List Byte) (i : Nat) (h : i < 32),
    (formatKey x)[i]'h = if h' : i < x.length then x[i]'h' else 0x00

/-- R134: LDBUF, with its word: a datagram longer than the buffer raises and writes nothing else. -/
def Obligations.LdbufCopiesTheDatagramOrRaises : Prop :=
  decodeWord 0x0500 = .ok .ldbuf ∧ ∀ s : State,
    (4096 < s.rxLen.toNat → exec .ldbuf s = .next { s with err := .lengthOverflow }) ∧
    (s.Inv → s.rxLen.toNat ≤ 4096 →
      ∃ t, exec .ldbuf s = .next t ∧ t = { s with len := s.rxLen, buf := t.buf, err := .none } ∧
        ∀ a, t.buf.read a = if a < s.rxLen.toNat then s.rx.read a else none)

/-- R146: CRYPT, with its word. `keystreamByte` is R135's KS. -/
def Obligations.CryptXorsTheKeystream : Prop :=
  decodeWord 0x0600 = .ok .crypt ∧ ∀ s : State, s.Inv → ∃ t, exec .crypt s = .next t ∧ t = { s with buf := t.buf, err := .none } ∧
    (∀ p, p < s.len.toNat → t.buf.read p = (s.buf.read p).map (· ^^^ keystreamByte params s.key s.iv p)) ∧
    ∀ p, s.len.toNat ≤ p → t.buf.read p = s.buf.read p

/-- R148 (b): two CRYPTs restore BUF exactly. -/
def Obligations.CryptIsAnInvolution : Prop :=
  ∀ s t : State, s.Inv → exec .crypt s = .next t → exec .crypt t = .next { s with err := .none }

/-- R148 (c), (d), for every configuration: byte `p` of the output is byte `p` of the input xor byte `p` of the
keystream, and depends on no other byte of the input; so the output of the first bytes is the first bytes of the
output, and zero bytes give the keystream. -/
def Obligations.CipherWorksBytewise : Prop :=
  ∀ (c : Config) (k : Vector Byte 32) (n : Vector Byte 8) (x : List Byte),
    (∀ p : Nat, (cryptBytes c k n x)[p]? = x[p]?.map (· ^^^ keystreamByte c k n p)) ∧
    ∀ m : Nat, cryptBytes c k n (x.take m) = (cryptBytes c k n x).take m ∧
      ∀ p, p < m → (cryptBytes c k n (List.replicate m 0x00))[p]? = some (keystreamByte c k n p)

/-- R146, R135, for every configuration: the keystream made block by block is the keystream by position. -/
def Obligations.BlockwiseKeystreamIsPositional : Prop :=
  ∀ (c : Config) (k : Vector Byte 32) (n : Vector Byte 8) (len p : Nat), p < len →
    (keystream c k n len)[p]? = some (keystreamByte c k n p)

/-- R137: quarterround, with the rule's example. The rule is general knowledge, not in the source (log 5). -/
def Obligations.QuarterroundFollowsItsEquations : Prop :=
  (∀ y0 y1 y2 y3 : Word, ∃ z0 z1 z2 z3 : Word, quarterround y0 y1 y2 y3 = ⟨z0, z1, z2, z3⟩ ∧
    z1 = y1 ^^^ (y0 + y3).rotateLeft 7 ∧ z2 = y2 ^^^ (z1 + y0).rotateLeft 9 ∧
    z3 = y3 ^^^ (z2 + z1).rotateLeft 13 ∧ z0 = y0 ^^^ (z3 + z2).rotateLeft 18) ∧
  quarterround 1 0 0 0 = ⟨0x08008145, 0x00000080, 0x00010200, 0x20500000⟩

/-- R144: the input matrix of block `j`: constants, key words, IV words and block number. The rule is general
knowledge, not in the source (log 5). -/
def Obligations.SalsaInputMatrix : Prop :=
  ∀ (k : Vector Byte 32) (n : Vector Byte 8) (j : BitVec 64),
    (Matrix.ofBytes (salsa20Input k n j)).words =
      [0x61707865, wordAt k.toList 0, wordAt k.toList 1, wordAt k.toList 2,
        wordAt k.toList 3, 0x3320646E, wordAt n.toList 0, wordAt n.toList 1,
        j.extractLsb' 0 32, j.extractLsb' 32 32, 0x79622D32, wordAt k.toList 4,
        wordAt k.toList 5, wordAt k.toList 6, wordAt k.toList 7, 0x6B206574]

/-! ### Frame Demarshaler -/

/-- R161, R163: DEMARSH of a plaintext with the right size and signature. -/
def Obligations.DemarshAcceptsTheFrame : Prop :=
  ∀ (s : State) (v : Variant), s.Inv → s.variant = some v → s.len.toNat = params.size v →
    holdsWord s.buf 0 0x47375330 →
    ∃ t, exec .demarsh s = .next t ∧
      t = { s with frame := t.frame, fVariant := some v, fValid := true, err := .none } ∧
      ∀ a, t.frame.read a = if a < params.size v then s.buf.read a else s.frame.read a

/-- R161, R221, R223, R224, R228: DEMARSH's errors in their order; nothing else is written. -/
def Obligations.DemarshRaises : Prop :=
  ∀ s : State,
    (s.variant = none → exec .demarsh s = .next { s with err := .unrecognizedVariant }) ∧
    (∀ v, s.variant = some v → s.len.toNat ≠ params.size v →
      exec .demarsh s = .next { s with err := .sizeMismatch }) ∧
    (∀ (v : Variant) (w : Word), s.variant = some v → s.len.toNat = params.size v → s.buf.wf →
      holdsWord s.buf 0 w → w ≠ 0x47375330 → exec .demarsh s = .next { s with err := .signatureMismatch })

/-! ### DECODE -/

/-- R210, R211: DECODE of a datagram of a known size whose plaintext carries the signature. The IV is that of
`IvderDerivesSeedAndIvOrRaises`, the key K_PROTO. -/
def Obligations.DecodeAcceptsAFrame : Prop :=
  ∀ (s : State) (v : Variant) (seed : Word), s.Inv → s.rxLen.toNat = params.size v → holdsWord s.rx 0x40 seed →
    (∀ p, p < 4 → (s.rx.read p).map (· ^^^ keystreamByte params (keyProto params) (deriveIv params v seed) p) =
      some ((0x47375330 : Word).extractLsb' (8 * p) 8)) →
    ∃ t, exec .decode s = .next t ∧
      t = { s with variant := some v, seed := seed, iv := deriveIv params v seed, key := keyProto params,
                   len := s.rxLen, buf := t.buf, frame := t.frame, fVariant := some v, fValid := true,
                   err := .none } ∧
      (∀ p, t.buf.read p =
        (s.rx.read p).map (· ^^^ keystreamByte params (keyProto params) (deriveIv params v seed) p)) ∧
      ∀ p, t.frame.read p = if p < params.size v then t.buf.read p else s.frame.read p

/-- R211, R221: DECODE of a datagram of no known size writes VARIANT and ERR only. -/
def Obligations.DecodeRejectsAnUnknownLength : Prop :=
  ∀ s : State, s.rxLen.toNat ≠ 296 → s.rxLen.toNat ≠ 316 → s.rxLen.toNat ≠ 344 →
    exec .decode s = .next { s with variant := none, err := .unrecognizedVariant }

/-- R211, R223: DECODE of a datagram of a known size without the signature: the plaintext stays in BUF, the frame
is untouched. -/
def Obligations.DecodeRejectsABadSignature : Prop :=
  ∀ (s : State) (v : Variant) (seed : Word), s.Inv → s.rxLen.toNat = params.size v → holdsWord s.rx 0x40 seed →
    (∃ p, p < 4 ∧ (s.rx.read p).map (· ^^^ keystreamByte params (keyProto params) (deriveIv params v seed) p) ≠
      some ((0x47375330 : Word).extractLsb' (8 * p) 8)) →
    ∃ t, exec .decode s = .next t ∧
      t = { s with variant := some v, seed := seed, iv := deriveIv params v seed, key := keyProto params,
                   len := s.rxLen, buf := t.buf, err := .signatureMismatch } ∧
      ∀ p, t.buf.read p =
        (s.rx.read p).map (· ^^^ keystreamByte params (keyProto params) (deriveIv params v seed) p)

/-- R212: with KSTR = KEY_STRING, DECODE ends as its stages issued one by one, on every state element. -/
def Obligations.DecodeEqualsItsStages : Prop :=
  ∀ s : State, s.kstr.wf → s.ksLen = 38 → (∀ i, i < 38 → s.kstr.read i = params.keyString[i]?) →
    exec .decode s = issueWhileOk [.vdet, .ivder, .keyld, .ldbuf, .crypt, .demarsh] s

/-- R213, R210: DECODE depends on the datagram alone: two states that hold the same datagram give the same outcome,
and on success the same decoded state; only the earlier frame survives a failure. -/
def Obligations.DecodeDependsOnTheDatagramAlone : Prop :=
  ∀ s s' t : State, s.rxLen = s'.rxLen → s.rx = s'.rx → exec .decode s = .next t →
    ∃ t', exec .decode s' = .next t' ∧ t'.err = t.err ∧ t'.variant = t.variant ∧
      (t.variant ≠ none → t'.seed = t.seed ∧ t'.iv = t.iv ∧ t'.key = t.key ∧ t'.len = t.len ∧ t'.buf = t.buf) ∧
      (t.err = .none → t'.fVariant = t.fVariant ∧ t'.fValid = t.fValid ∧
        ∀ a, a < t.len.toNat → t'.frame.read a = t.frame.read a)

/-! ### Accessors -/

/-- R182, R225: without a frame every accessor raises NoFrame and writes nothing else. -/
def Obligations.AccessorsRaiseNoFrame : Prop :=
  ∀ (i : Instr) (s : State), isAccessor i = true → s.fValid = false → exec i s = .next { s with err := .noFrame }

/-- R185, R186: the gear nibbles, `g[3:0]` and `g[7:4]`. The field's place is the default LAYOUT's (log 8). -/
def Obligations.GearAccessorsReadTheNibbles : Prop :=
  ∀ (s : State) (g : Byte), s.frame.wf → s.fValid = true → s.frame.read 0x90 = some g →
    exec .gearc s = .next { s with res := (g.extractLsb' 0 4).setWidth 32, err := .none } ∧
    exec .gears s = .next { s with res := (g.extractLsb' 4 4).setWidth 32, err := .none }

/-- R187, R188: PTRAIN classifies the truncated fuel capacity. The field's place is the default LAYOUT's (log 8);
where the byte is a draw, its number is the model's own (log 4). -/
def Obligations.PtrainClassifiesTheFuelCapacity : Prop :=
  ∀ (s : State) (f : Word), s.frame.wf → s.fValid = true → holdsWord s.frame 0x48 f →
    exec .ptrain s = .next { s with
      res := if 10 < (f32ToU8 s.draw f).toNat then 1 else if (f32ToU8 s.draw f).toNat = 0 then 2
        else if (f32ToU8 s.draw f).toNat = 5 then 3 else 0
      err := .none
      draw := s.draw + 1 }

/-- R190, R192: TSPD at a wheel, and outside 0..3. The fields' places are the default LAYOUT's (log 8). -/
def Obligations.TspdGivesTheTireSpeed : Prop :=
  ∀ (s : State) (idx : Int), s.frame.wf → s.fValid = true →
    (∀ r w : Word, 0 ≤ idx → idx ≤ 3 → holdsWord s.frame (0xB4 + 4 * idx.toNat) r →
      holdsWord s.frame (0xA4 + 4 * idx.toNat) w →
      exec (.tspd idx) s = .next { s with
        res := f32Abs (f32Mul (s.draw + 1) (f32Mul s.draw 0x40666666 r) w), err := .none, draw := s.draw + 2 }) ∧
    (idx < 0 ∨ 3 < idx → exec (.tspd idx) s = .next { s with res := 0, err := .none, draw := s.draw + 2 })

/-- R190: a TSPD that succeeds leaves a result with sign bit 0. -/
def Obligations.TspdIsNeverNegative : Prop :=
  ∀ (s t : State) (idx : Int), exec (.tspd idx) s = .next t → t.err = .none → t.res.getLsbD 31 = false

/-- R193, R195: TSLIP: the zero-speed guard whatever the index, then the quotient. The fields' places are the
default LAYOUT's (log 8). -/
def Obligations.TslipGivesTheSlipRatio : Prop :=
  ∀ (s : State) (idx : Int) (v : Word), s.frame.wf → s.fValid = true → holdsWord s.frame 0x4C v →
    (v = 0x00000000 ∨ v = 0x80000000 →
      exec (.tslip idx) s = .next { s with res := 0, err := .none, draw := s.draw + 4 }) ∧
    (v ≠ 0x00000000 → v ≠ 0x80000000 → ∀ r w : Word, 0 ≤ idx → idx ≤ 3 →
      holdsWord s.frame (0xB4 + 4 * idx.toNat) r → holdsWord s.frame (0xA4 + 4 * idx.toNat) w →
      exec (.tslip idx) s = .next { s with
        res := f32Div (s.draw + 3) (f32Abs (f32Mul (s.draw + 1) (f32Mul s.draw 0x40666666 r) w))
          (f32Mul (s.draw + 2) 0x40666666 v)
        err := .none
        draw := s.draw + 4 }) ∧
    (v ≠ 0x00000000 → v ≠ 0x80000000 → idx < 0 ∨ 3 < idx →
      exec (.tslip idx) s = .next { s with
        res := f32Div (s.draw + 3) 0 (f32Mul (s.draw + 2) 0x40666666 v), err := .none, draw := s.draw + 4 })

/-- R195: outside 0..3, with a speed that is neither a zero nor a NaN, TSLIP gives the zero of the speed's sign. -/
def Obligations.TslipOutOfRangeIsAZero : Prop :=
  ∀ (s : State) (idx : Int) (v : Word), s.frame.wf → s.fValid = true → holdsWord s.frame 0x4C v →
    idx < 0 ∨ 3 < idx → v ≠ 0x00000000 → v ≠ 0x80000000 → f32IsNaN v = false →
    ∃ t, exec (.tslip idx) s = .next t ∧ t.err = .none ∧
      t.res = if v.getLsbD 31 then 0x80000000 else 0x00000000

/-- R199, R200: FLAG. The field's place is the default LAYOUT's (log 8). -/
def Obligations.FlagQueriesTheMask : Prop :=
  ∀ (s : State) (idx : Int) (m : Half), s.frame.wf → s.fValid = true → holdsHalf s.frame 0x8E m →
    exec (.flag idx) s = .next { s with
      res := if idx < 0 ∨ (s.flagMax.toNat : Int) < idx then 0
        else if idx = 0 then (if m = 0 then 1 else 0)
        else if m.getLsbD (idx - 1).toNat then 1 else 0
      err := .none }

/-! ### NUMERICS -/

/-- R181: FMUL32 of finite operands is the product rounded to nearest even, and overflows to the infinity of its
sign. -/
def Obligations.MultiplicationRoundsToNearestEven : Prop :=
  ∀ (n : Nat) (a b : Word), f32Finite a → f32Finite b →
    f32Sign (f32Mul n a b) = (f32Sign a ^^ f32Sign b) ∧
    (|f32Value a * f32Value b| < f32Overflow → f32NearestEven (f32Mul n a b) (f32Value a * f32Value b)) ∧
    (f32Overflow ≤ |f32Value a * f32Value b| → f32IsInf (f32Mul n a b) = true)

/-- R181: FDIV32 of finite operands with a non-zero divisor is the quotient rounded to nearest even. -/
def Obligations.DivisionRoundsToNearestEven : Prop :=
  ∀ (n : Nat) (a b : Word), f32Finite a → f32Finite b → f32Value b ≠ 0 →
    f32Sign (f32Div n a b) = (f32Sign a ^^ f32Sign b) ∧
    (|f32Value a / f32Value b| < f32Overflow → f32NearestEven (f32Div n a b) (f32Value a / f32Value b)) ∧
    (f32Overflow ≤ |f32Value a / f32Value b| → f32IsInf (f32Div n a b) = true)

/-- R181: the results that are no rounded number: NaN operands, `0 * inf`, `0 / 0`, `inf / inf` give a quiet NaN;
an infinity times a non-zero, a non-zero over a zero, an infinity over a finite value give the signed infinity, a
finite value over an infinity the signed zero. -/
def Obligations.SpecialOperandsOfMultiplicationAndDivision : Prop :=
  ∀ (n : Nat) (a b : Word),
    (f32IsNaN a = true ∨ f32IsNaN b = true → f32QuietNaN (f32Mul n a b) ∧ f32QuietNaN (f32Div n a b)) ∧
    (f32IsInf a = true → f32Finite b → f32Value b = 0 → f32QuietNaN (f32Mul n a b) ∧ f32QuietNaN (f32Mul n b a)) ∧
    (f32Finite a → f32Value a = 0 → f32Finite b → f32Value b = 0 → f32QuietNaN (f32Div n a b)) ∧
    (f32IsInf a = true → f32IsInf b = true → f32QuietNaN (f32Div n a b)) ∧
    (f32IsInf a = true → f32IsNaN b = false → (f32Finite b → f32Value b ≠ 0) →
      f32Mul n a b = f32Pack (f32Sign a ^^ f32Sign b) 0x7F800000 ∧
      f32Mul n b a = f32Pack (f32Sign a ^^ f32Sign b) 0x7F800000) ∧
    (f32IsInf a = true → f32Finite b → f32Div n a b = f32Pack (f32Sign a ^^ f32Sign b) 0x7F800000) ∧
    (f32Finite a → f32Value a ≠ 0 → f32Finite b → f32Value b = 0 →
      f32Div n a b = f32Pack (f32Sign a ^^ f32Sign b) 0x7F800000) ∧
    (f32Finite a → f32IsInf b = true → f32Div n a b = f32Pack (f32Sign a ^^ f32Sign b) 0)

/-- R181: F2U8 truncates toward zero wherever `-1.0 < a < 256.0`, whatever the draw. -/
def Obligations.TruncationToAByte : Prop :=
  ∀ (n : Nat) (a : Word), f32Finite a → -1 < f32Value a → f32Value a < 256 →
    (f32ToU8 n a).toNat = ⌊|f32Value a|⌋₊
end

