-- ==== Sys2Proof/Laws/Memory.lean ====
section
/-! SUPPORT. What the memory operations do, byte by byte, and that they keep the canonical form. -/

namespace Sys2Proof.Machine.Memory

theorem mem_cells {x : Host.Cell} {bs : List Byte} : ∀ {a : Nat}, x ∈ cells a bs → a ≤ x.1 ∧ x.1 < a + bs.length := by
  induction bs with
  | nil => intro a h; simp [cells] at h
  | cons b bs ih =>
    intro a h
    rcases List.mem_cons.1 h with rfl | h
    · simp
    · have := ih h
      simp only [List.length_cons]
      omega

theorem cells_wf (bs : List Byte) : ∀ a, (cells a bs).wf := by
  induction bs with
  | nil => intro a; exact List.Pairwise.nil
  | cons b bs ih =>
    intro a
    exact List.Pairwise.cons (fun x hx => (mem_cells hx).1) (ih (a + 1))

theorem read_cells (bs : List Byte) : ∀ a k, (cells a bs).read k = if a ≤ k then bs[k - a]? else none := by
  induction bs with
  | nil => intro a k; simp [cells, read]
  | cons b bs ih =>
    intro a k
    have h := ih (a + 1) k
    simp only [read] at h
    simp only [cells, read, List.lookup_cons, h]
    rcases Nat.lt_trichotomy k a with hk | rfl | hk
    · have : ¬ a ≤ k := by omega
      have : (k == a) = false := by simpa using (by omega : k ≠ a)
      simp [*]
      omega
    · simp
    · have e : k - a = (k - (a + 1)) + 1 := by omega
      have : (k == a) = false := by simpa using (by omega : k ≠ a)
      simp [this, e, Nat.le_of_lt hk, Nat.succ_le_of_lt hk]

/-- A space filled from index 0 reads as the byte sequence. -/
@[simp] theorem read_ofBytes (bs : List Byte) (k : Nat) : (ofBytes bs).read k = bs[k]? := by
  simp [ofBytes, read_cells]

theorem ofBytes_wf (bs : List Byte) : (ofBytes bs).wf := cells_wf bs 0

theorem read_filter (p : Nat → Bool) (m : Memory) (k : Nat) :
    Memory.read (m.filter fun x => p x.1) k = if p k then m.read k else none := by
  induction m with
  | nil => simp [read]
  | cons x m ih =>
    obtain ⟨a, b⟩ := x
    simp only [read] at ih ⊢
    by_cases hk : k = a
    · subst hk
      by_cases hp : p k <;> simp [hp, ih]
    · have : (k == a) = false := by simpa using hk
      by_cases hp : p a <;> simp [hp, ih, List.lookup_cons, this]

theorem read_append (m m' : Memory) (k : Nat) : Memory.read (m ++ m') k = (m.read k).or (m'.read k) := by
  simp [read, List.lookup_append]

/-- A byte after a write: the byte written there, or the byte that was there. -/
theorem read_write (m : Memory) (a : Nat) (bs : List Byte) (k : Nat) :
    (m.write a bs).read k = if a ≤ k ∧ k < a + bs.length then bs[k - a]? else m.read k := by
  have h1 := read_filter (fun i => decide (i < a)) m k
  have h2 := read_filter (fun i => decide (a + bs.length ≤ i)) m k
  rw [write, read_append, read_append, h1, h2, read_cells]
  rcases Nat.lt_or_ge k a with hk | hk
  · have : ¬ a ≤ k := by omega
    have : ¬ a + bs.length ≤ k := by omega
    simp [*]
  · rcases Nat.lt_or_ge k (a + bs.length) with hk' | hk'
    · have : ¬ k < a := by omega
      have : ¬ a + bs.length ≤ k := by omega
      simp [*]
    · have : ¬ k < a := by omega
      have : ¬ k < a + bs.length := by omega
      have : bs[k - a]? = none := by simp; omega
      simp [*]

theorem write_wf {m : Memory} (h : m.wf) (a : Nat) (bs : List Byte) : (m.write a bs).wf := by
  unfold Memory.wf write
  rw [List.pairwise_append, List.pairwise_append]
  refine ⟨⟨h.filter _, cells_wf bs a, ?_⟩, h.filter _, ?_⟩
  · intro x hx y hy
    have := mem_cells hy
    simp only [List.mem_filter, decide_eq_true_eq] at hx
    omega
  · intro x hx y hy
    simp only [List.mem_filter, decide_eq_true_eq] at hy
    rcases List.mem_append.1 hx with hx | hx
    · simp only [List.mem_filter, decide_eq_true_eq] at hx
      omega
    · have := mem_cells hx
      omega

theorem wf_tail {x : Host.Cell} {m : Memory} (h : Memory.wf (x :: m)) : Memory.wf m := (List.pairwise_cons.1 h).2

/-- Below its first cell a canonical memory holds no value. -/
theorem read_none_of_lt {x : Host.Cell} {m : Memory} (h : Memory.wf (x :: m)) {k : Nat} (hk : k ≤ x.1) :
    m.read k = none := by
  rw [read, List.lookup_eq_none_iff]
  intro y hy
  have := (List.pairwise_cons.1 h).1 y hy
  simp only [bne_iff_ne, ne_eq]
  omega

theorem read_cons (a : Nat) (b : Byte) (m : Memory) (k : Nat) :
    Memory.read ((a, b) :: m) k = if k = a then some b else m.read k := by
  rw [read, List.lookup_cons]
  by_cases h : k = a
  · simp [h]
  · have : (k == a) = false := by simpa using h
    simp [h, this, read]

/-- Two canonical memories that read alike are equal. -/
theorem ext {m : Memory} : ∀ {m' : Memory}, m.wf → m'.wf → (∀ k, m.read k = m'.read k) → m = m' := by
  induction m with
  | nil =>
    intro m' _ _ h
    cases m' with
    | nil => rfl
    | cons y m' => have := h y.1; rw [read_cons, if_pos rfl] at this; cases this
  | cons x m ih =>
    obtain ⟨a, b⟩ := x
    intro m' hm hm' h
    cases m' with
    | nil => have := h a; rw [read_cons, if_pos rfl] at this; cases this
    | cons y m' =>
      obtain ⟨a', b'⟩ := y
      have ha : a = a' := by
        rcases Nat.lt_trichotomy a a' with hl | he | hl
        · have h1 := h a
          rw [read_cons, read_cons, if_pos rfl, if_neg (by omega), read_none_of_lt hm' (by simpa using hl.le)] at h1
          cases h1
        · exact he
        · have h1 := h a'
          rw [read_cons, read_cons, if_pos rfl, if_neg (by omega), read_none_of_lt hm (by simpa using hl.le)] at h1
          cases h1
      subst ha
      have hb : b = b' := by simpa [read_cons] using h a
      subst hb
      rw [ih (wf_tail hm) (wf_tail hm')]
      intro k
      by_cases hk : k = a
      · subst hk
        rw [read_none_of_lt hm (by simp), read_none_of_lt hm' (by simp)]
      · simpa [read_cons, hk] using h k

/-- What a range read of a canonical memory answers, byte by byte. -/
theorem readRange_eq_some_iff {m : Memory} :
    ∀ {a n : Nat} {bs : List Byte}, m.wf →
      (m.readRange a n = some bs ↔ bs.length = n ∧ ∀ i, i < n → m.read (a + i) = bs[i]?) := by
  induction m with
  | nil =>
    intro a n bs _
    cases n with
    | zero => simp [readRange, eq_comm (a := [])]
    | succ n =>
      simp only [readRange, reduceCtorEq, false_iff, not_and]
      intro hl h
      have := h 0 (by omega)
      simp only [read, List.lookup_nil] at this
      have h2 := List.getElem?_eq_none_iff.1 this.symm
      omega
  | cons x m ih =>
    obtain ⟨k, b⟩ := x
    intro a n bs hm
    cases n with
    | zero => simp [readRange, eq_comm (a := [])]
    | succ n =>
      rw [readRange]
      split
      · rename_i hk
        rw [ih (wf_tail hm)]
        refine and_congr_right fun _ => forall₂_congr fun i _ => ?_
        rw [read_cons, if_neg (by omega)]
      · split
        · rename_i _ hk
          subst hk
          rw [Option.map_eq_some_iff]
          constructor
          · rintro ⟨cs, h, rfl⟩
            obtain ⟨hl, h⟩ := (ih (wf_tail hm)).1 h
            refine ⟨by simp [hl], fun i hi => ?_⟩
            cases i with
            | zero => simp [read_cons]
            | succ i =>
              rw [read_cons, if_neg (by omega)]
              simpa [Nat.add_assoc, Nat.add_comm 1 i] using h i (by omega)
          · rintro ⟨hl, h⟩
            cases bs with
            | nil => simp at hl
            | cons c cs =>
              have h0 := h 0 (by omega)
              simp only [Nat.add_zero, read_cons, if_true, List.getElem?_cons_zero, Option.some.injEq] at h0
              subst h0
              refine ⟨cs, (ih (wf_tail hm)).2 ⟨by simpa using hl, fun i hi => ?_⟩, rfl⟩
              have h1 := h (i + 1) (by omega)
              rw [read_cons, if_neg (by omega)] at h1
              simpa [Nat.add_assoc, Nat.add_comm 1 i] using h1
        · rename_i h1 h2
          simp only [reduceCtorEq, false_iff, not_and]
          intro hl h
          have h0 := h 0 (by omega)
          rw [Nat.add_zero, read_cons, if_neg (by omega), read_none_of_lt hm (by simp; omega)] at h0
          have h3 := List.getElem?_eq_none_iff.1 h0.symm
          omega

/-- A range whose bytes all hold a value is read. -/
theorem readRange_of_isSome {m : Memory} (hm : m.wf) {a n : Nat} (h : ∀ i, i < n → (m.read (a + i)).isSome) :
    ∃ bs, m.readRange a n = some bs ∧ bs.length = n ∧ ∀ i, i < n → m.read (a + i) = bs[i]? := by
  refine ⟨List.ofFn fun i : Fin n => (m.read (a + i)).get (h i i.2), ?_⟩
  rw [readRange_eq_some_iff hm]
  simp +contextual

/-- Reading back the whole of a space filled from index 0. -/
theorem readRange_ofBytes (bs : List Byte) : (ofBytes bs).readRange 0 bs.length = some bs := by
  simp [readRange_eq_some_iff (ofBytes_wf bs)]

end Sys2Proof.Machine.Memory
end

