-- ==== Sys2Proof/Laws/State.lean ====
section
/-! SUPPORT. One lemma per field per register write of Machine/Ops.lean, so that no later proof unfolds one. -/

namespace Sys2Proof.Machine.State

section
variable (s : State)

@[simp] theorem setRx_rxLen (n : Half) (m : Memory) : (s.setRx n m).rxLen = n := rfl
@[simp] theorem setRx_rx (n : Half) (m : Memory) : (s.setRx n m).rx = m := rfl
@[simp] theorem setRx_ksLen (n : Half) (m : Memory) : (s.setRx n m).ksLen = s.ksLen := rfl
@[simp] theorem setRx_kstr (n : Half) (m : Memory) : (s.setRx n m).kstr = s.kstr := rfl
@[simp] theorem setRx_iv (n : Half) (m : Memory) : (s.setRx n m).iv = s.iv := rfl
@[simp] theorem setRx_seed (n : Half) (m : Memory) : (s.setRx n m).seed = s.seed := rfl
@[simp] theorem setRx_key (n : Half) (m : Memory) : (s.setRx n m).key = s.key := rfl
@[simp] theorem setRx_len (n : Half) (m : Memory) : (s.setRx n m).len = s.len := rfl
@[simp] theorem setRx_buf (n : Half) (m : Memory) : (s.setRx n m).buf = s.buf := rfl
@[simp] theorem setRx_frame (n : Half) (m : Memory) : (s.setRx n m).frame = s.frame := rfl
@[simp] theorem setRx_res (n : Half) (m : Memory) : (s.setRx n m).res = s.res := rfl
@[simp] theorem setRx_err (n : Half) (m : Memory) : (s.setRx n m).err = s.err := rfl
@[simp] theorem setRx_variant (n : Half) (m : Memory) : (s.setRx n m).variant = s.variant := rfl
@[simp] theorem setRx_fVariant (n : Half) (m : Memory) : (s.setRx n m).fVariant = s.fVariant := rfl
@[simp] theorem setRx_fValid (n : Half) (m : Memory) : (s.setRx n m).fValid = s.fValid := rfl
@[simp] theorem setRx_expVar (n : Half) (m : Memory) : (s.setRx n m).expVar = s.expVar := rfl
@[simp] theorem setRx_flagMax (n : Half) (m : Memory) : (s.setRx n m).flagMax = s.flagMax := rfl
@[simp] theorem setRx_pending (n : Half) (m : Memory) : (s.setRx n m).pending = s.pending := rfl
@[simp] theorem setRx_answer (n : Half) (m : Memory) : (s.setRx n m).answer = s.answer := rfl
@[simp] theorem setRx_draw (n : Half) (m : Memory) : (s.setRx n m).draw = s.draw := rfl

@[simp] theorem setKstr_rxLen (n : Byte) (m : Memory) : (s.setKstr n m).rxLen = s.rxLen := rfl
@[simp] theorem setKstr_rx (n : Byte) (m : Memory) : (s.setKstr n m).rx = s.rx := rfl
@[simp] theorem setKstr_ksLen (n : Byte) (m : Memory) : (s.setKstr n m).ksLen = n := rfl
@[simp] theorem setKstr_kstr (n : Byte) (m : Memory) : (s.setKstr n m).kstr = m := rfl
@[simp] theorem setKstr_iv (n : Byte) (m : Memory) : (s.setKstr n m).iv = s.iv := rfl
@[simp] theorem setKstr_seed (n : Byte) (m : Memory) : (s.setKstr n m).seed = s.seed := rfl
@[simp] theorem setKstr_key (n : Byte) (m : Memory) : (s.setKstr n m).key = s.key := rfl
@[simp] theorem setKstr_len (n : Byte) (m : Memory) : (s.setKstr n m).len = s.len := rfl
@[simp] theorem setKstr_buf (n : Byte) (m : Memory) : (s.setKstr n m).buf = s.buf := rfl
@[simp] theorem setKstr_frame (n : Byte) (m : Memory) : (s.setKstr n m).frame = s.frame := rfl
@[simp] theorem setKstr_res (n : Byte) (m : Memory) : (s.setKstr n m).res = s.res := rfl
@[simp] theorem setKstr_err (n : Byte) (m : Memory) : (s.setKstr n m).err = s.err := rfl
@[simp] theorem setKstr_variant (n : Byte) (m : Memory) : (s.setKstr n m).variant = s.variant := rfl
@[simp] theorem setKstr_fVariant (n : Byte) (m : Memory) : (s.setKstr n m).fVariant = s.fVariant := rfl
@[simp] theorem setKstr_fValid (n : Byte) (m : Memory) : (s.setKstr n m).fValid = s.fValid := rfl
@[simp] theorem setKstr_expVar (n : Byte) (m : Memory) : (s.setKstr n m).expVar = s.expVar := rfl
@[simp] theorem setKstr_flagMax (n : Byte) (m : Memory) : (s.setKstr n m).flagMax = s.flagMax := rfl
@[simp] theorem setKstr_pending (n : Byte) (m : Memory) : (s.setKstr n m).pending = s.pending := rfl
@[simp] theorem setKstr_answer (n : Byte) (m : Memory) : (s.setKstr n m).answer = s.answer := rfl
@[simp] theorem setKstr_draw (n : Byte) (m : Memory) : (s.setKstr n m).draw = s.draw := rfl

@[simp] theorem setIv_rxLen (v : Vector Byte 8) : (s.setIv v).rxLen = s.rxLen := rfl
@[simp] theorem setIv_rx (v : Vector Byte 8) : (s.setIv v).rx = s.rx := rfl
@[simp] theorem setIv_ksLen (v : Vector Byte 8) : (s.setIv v).ksLen = s.ksLen := rfl
@[simp] theorem setIv_kstr (v : Vector Byte 8) : (s.setIv v).kstr = s.kstr := rfl
@[simp] theorem setIv_iv (v : Vector Byte 8) : (s.setIv v).iv = v := rfl
@[simp] theorem setIv_seed (v : Vector Byte 8) : (s.setIv v).seed = s.seed := rfl
@[simp] theorem setIv_key (v : Vector Byte 8) : (s.setIv v).key = s.key := rfl
@[simp] theorem setIv_len (v : Vector Byte 8) : (s.setIv v).len = s.len := rfl
@[simp] theorem setIv_buf (v : Vector Byte 8) : (s.setIv v).buf = s.buf := rfl
@[simp] theorem setIv_frame (v : Vector Byte 8) : (s.setIv v).frame = s.frame := rfl
@[simp] theorem setIv_res (v : Vector Byte 8) : (s.setIv v).res = s.res := rfl
@[simp] theorem setIv_err (v : Vector Byte 8) : (s.setIv v).err = s.err := rfl
@[simp] theorem setIv_variant (v : Vector Byte 8) : (s.setIv v).variant = s.variant := rfl
@[simp] theorem setIv_fVariant (v : Vector Byte 8) : (s.setIv v).fVariant = s.fVariant := rfl
@[simp] theorem setIv_fValid (v : Vector Byte 8) : (s.setIv v).fValid = s.fValid := rfl
@[simp] theorem setIv_expVar (v : Vector Byte 8) : (s.setIv v).expVar = s.expVar := rfl
@[simp] theorem setIv_flagMax (v : Vector Byte 8) : (s.setIv v).flagMax = s.flagMax := rfl
@[simp] theorem setIv_pending (v : Vector Byte 8) : (s.setIv v).pending = s.pending := rfl
@[simp] theorem setIv_answer (v : Vector Byte 8) : (s.setIv v).answer = s.answer := rfl
@[simp] theorem setIv_draw (v : Vector Byte 8) : (s.setIv v).draw = s.draw := rfl

@[simp] theorem setSeed_rxLen (v : Word) : (s.setSeed v).rxLen = s.rxLen := rfl
@[simp] theorem setSeed_rx (v : Word) : (s.setSeed v).rx = s.rx := rfl
@[simp] theorem setSeed_ksLen (v : Word) : (s.setSeed v).ksLen = s.ksLen := rfl
@[simp] theorem setSeed_kstr (v : Word) : (s.setSeed v).kstr = s.kstr := rfl
@[simp] theorem setSeed_iv (v : Word) : (s.setSeed v).iv = s.iv := rfl
@[simp] theorem setSeed_seed (v : Word) : (s.setSeed v).seed = v := rfl
@[simp] theorem setSeed_key (v : Word) : (s.setSeed v).key = s.key := rfl
@[simp] theorem setSeed_len (v : Word) : (s.setSeed v).len = s.len := rfl
@[simp] theorem setSeed_buf (v : Word) : (s.setSeed v).buf = s.buf := rfl
@[simp] theorem setSeed_frame (v : Word) : (s.setSeed v).frame = s.frame := rfl
@[simp] theorem setSeed_res (v : Word) : (s.setSeed v).res = s.res := rfl
@[simp] theorem setSeed_err (v : Word) : (s.setSeed v).err = s.err := rfl
@[simp] theorem setSeed_variant (v : Word) : (s.setSeed v).variant = s.variant := rfl
@[simp] theorem setSeed_fVariant (v : Word) : (s.setSeed v).fVariant = s.fVariant := rfl
@[simp] theorem setSeed_fValid (v : Word) : (s.setSeed v).fValid = s.fValid := rfl
@[simp] theorem setSeed_expVar (v : Word) : (s.setSeed v).expVar = s.expVar := rfl
@[simp] theorem setSeed_flagMax (v : Word) : (s.setSeed v).flagMax = s.flagMax := rfl
@[simp] theorem setSeed_pending (v : Word) : (s.setSeed v).pending = s.pending := rfl
@[simp] theorem setSeed_answer (v : Word) : (s.setSeed v).answer = s.answer := rfl
@[simp] theorem setSeed_draw (v : Word) : (s.setSeed v).draw = s.draw := rfl

@[simp] theorem setKey_rxLen (v : Vector Byte 32) : (s.setKey v).rxLen = s.rxLen := rfl
@[simp] theorem setKey_rx (v : Vector Byte 32) : (s.setKey v).rx = s.rx := rfl
@[simp] theorem setKey_ksLen (v : Vector Byte 32) : (s.setKey v).ksLen = s.ksLen := rfl
@[simp] theorem setKey_kstr (v : Vector Byte 32) : (s.setKey v).kstr = s.kstr := rfl
@[simp] theorem setKey_iv (v : Vector Byte 32) : (s.setKey v).iv = s.iv := rfl
@[simp] theorem setKey_seed (v : Vector Byte 32) : (s.setKey v).seed = s.seed := rfl
@[simp] theorem setKey_key (v : Vector Byte 32) : (s.setKey v).key = v := rfl
@[simp] theorem setKey_len (v : Vector Byte 32) : (s.setKey v).len = s.len := rfl
@[simp] theorem setKey_buf (v : Vector Byte 32) : (s.setKey v).buf = s.buf := rfl
@[simp] theorem setKey_frame (v : Vector Byte 32) : (s.setKey v).frame = s.frame := rfl
@[simp] theorem setKey_res (v : Vector Byte 32) : (s.setKey v).res = s.res := rfl
@[simp] theorem setKey_err (v : Vector Byte 32) : (s.setKey v).err = s.err := rfl
@[simp] theorem setKey_variant (v : Vector Byte 32) : (s.setKey v).variant = s.variant := rfl
@[simp] theorem setKey_fVariant (v : Vector Byte 32) : (s.setKey v).fVariant = s.fVariant := rfl
@[simp] theorem setKey_fValid (v : Vector Byte 32) : (s.setKey v).fValid = s.fValid := rfl
@[simp] theorem setKey_expVar (v : Vector Byte 32) : (s.setKey v).expVar = s.expVar := rfl
@[simp] theorem setKey_flagMax (v : Vector Byte 32) : (s.setKey v).flagMax = s.flagMax := rfl
@[simp] theorem setKey_pending (v : Vector Byte 32) : (s.setKey v).pending = s.pending := rfl
@[simp] theorem setKey_answer (v : Vector Byte 32) : (s.setKey v).answer = s.answer := rfl
@[simp] theorem setKey_draw (v : Vector Byte 32) : (s.setKey v).draw = s.draw := rfl

@[simp] theorem setBuf_rxLen (n : Half) (m : Memory) : (s.setBuf n m).rxLen = s.rxLen := rfl
@[simp] theorem setBuf_rx (n : Half) (m : Memory) : (s.setBuf n m).rx = s.rx := rfl
@[simp] theorem setBuf_ksLen (n : Half) (m : Memory) : (s.setBuf n m).ksLen = s.ksLen := rfl
@[simp] theorem setBuf_kstr (n : Half) (m : Memory) : (s.setBuf n m).kstr = s.kstr := rfl
@[simp] theorem setBuf_iv (n : Half) (m : Memory) : (s.setBuf n m).iv = s.iv := rfl
@[simp] theorem setBuf_seed (n : Half) (m : Memory) : (s.setBuf n m).seed = s.seed := rfl
@[simp] theorem setBuf_key (n : Half) (m : Memory) : (s.setBuf n m).key = s.key := rfl
@[simp] theorem setBuf_len (n : Half) (m : Memory) : (s.setBuf n m).len = n := rfl
@[simp] theorem setBuf_buf (n : Half) (m : Memory) : (s.setBuf n m).buf = m := rfl
@[simp] theorem setBuf_frame (n : Half) (m : Memory) : (s.setBuf n m).frame = s.frame := rfl
@[simp] theorem setBuf_res (n : Half) (m : Memory) : (s.setBuf n m).res = s.res := rfl
@[simp] theorem setBuf_err (n : Half) (m : Memory) : (s.setBuf n m).err = s.err := rfl
@[simp] theorem setBuf_variant (n : Half) (m : Memory) : (s.setBuf n m).variant = s.variant := rfl
@[simp] theorem setBuf_fVariant (n : Half) (m : Memory) : (s.setBuf n m).fVariant = s.fVariant := rfl
@[simp] theorem setBuf_fValid (n : Half) (m : Memory) : (s.setBuf n m).fValid = s.fValid := rfl
@[simp] theorem setBuf_expVar (n : Half) (m : Memory) : (s.setBuf n m).expVar = s.expVar := rfl
@[simp] theorem setBuf_flagMax (n : Half) (m : Memory) : (s.setBuf n m).flagMax = s.flagMax := rfl
@[simp] theorem setBuf_pending (n : Half) (m : Memory) : (s.setBuf n m).pending = s.pending := rfl
@[simp] theorem setBuf_answer (n : Half) (m : Memory) : (s.setBuf n m).answer = s.answer := rfl
@[simp] theorem setBuf_draw (n : Half) (m : Memory) : (s.setBuf n m).draw = s.draw := rfl

@[simp] theorem setFrame_rxLen (m : Memory) (v : Variant) : (s.setFrame m v).rxLen = s.rxLen := rfl
@[simp] theorem setFrame_rx (m : Memory) (v : Variant) : (s.setFrame m v).rx = s.rx := rfl
@[simp] theorem setFrame_ksLen (m : Memory) (v : Variant) : (s.setFrame m v).ksLen = s.ksLen := rfl
@[simp] theorem setFrame_kstr (m : Memory) (v : Variant) : (s.setFrame m v).kstr = s.kstr := rfl
@[simp] theorem setFrame_iv (m : Memory) (v : Variant) : (s.setFrame m v).iv = s.iv := rfl
@[simp] theorem setFrame_seed (m : Memory) (v : Variant) : (s.setFrame m v).seed = s.seed := rfl
@[simp] theorem setFrame_key (m : Memory) (v : Variant) : (s.setFrame m v).key = s.key := rfl
@[simp] theorem setFrame_len (m : Memory) (v : Variant) : (s.setFrame m v).len = s.len := rfl
@[simp] theorem setFrame_buf (m : Memory) (v : Variant) : (s.setFrame m v).buf = s.buf := rfl
@[simp] theorem setFrame_frame (m : Memory) (v : Variant) : (s.setFrame m v).frame = m := rfl
@[simp] theorem setFrame_res (m : Memory) (v : Variant) : (s.setFrame m v).res = s.res := rfl
@[simp] theorem setFrame_err (m : Memory) (v : Variant) : (s.setFrame m v).err = s.err := rfl
@[simp] theorem setFrame_variant (m : Memory) (v : Variant) : (s.setFrame m v).variant = s.variant := rfl
@[simp] theorem setFrame_fVariant (m : Memory) (v : Variant) : (s.setFrame m v).fVariant = some v := rfl
@[simp] theorem setFrame_fValid (m : Memory) (v : Variant) : (s.setFrame m v).fValid = true := rfl
@[simp] theorem setFrame_expVar (m : Memory) (v : Variant) : (s.setFrame m v).expVar = s.expVar := rfl
@[simp] theorem setFrame_flagMax (m : Memory) (v : Variant) : (s.setFrame m v).flagMax = s.flagMax := rfl
@[simp] theorem setFrame_pending (m : Memory) (v : Variant) : (s.setFrame m v).pending = s.pending := rfl
@[simp] theorem setFrame_answer (m : Memory) (v : Variant) : (s.setFrame m v).answer = s.answer := rfl
@[simp] theorem setFrame_draw (m : Memory) (v : Variant) : (s.setFrame m v).draw = s.draw := rfl

@[simp] theorem setRes_rxLen (v : Word) : (s.setRes v).rxLen = s.rxLen := rfl
@[simp] theorem setRes_rx (v : Word) : (s.setRes v).rx = s.rx := rfl
@[simp] theorem setRes_ksLen (v : Word) : (s.setRes v).ksLen = s.ksLen := rfl
@[simp] theorem setRes_kstr (v : Word) : (s.setRes v).kstr = s.kstr := rfl
@[simp] theorem setRes_iv (v : Word) : (s.setRes v).iv = s.iv := rfl
@[simp] theorem setRes_seed (v : Word) : (s.setRes v).seed = s.seed := rfl
@[simp] theorem setRes_key (v : Word) : (s.setRes v).key = s.key := rfl
@[simp] theorem setRes_len (v : Word) : (s.setRes v).len = s.len := rfl
@[simp] theorem setRes_buf (v : Word) : (s.setRes v).buf = s.buf := rfl
@[simp] theorem setRes_frame (v : Word) : (s.setRes v).frame = s.frame := rfl
@[simp] theorem setRes_res (v : Word) : (s.setRes v).res = v := rfl
@[simp] theorem setRes_err (v : Word) : (s.setRes v).err = s.err := rfl
@[simp] theorem setRes_variant (v : Word) : (s.setRes v).variant = s.variant := rfl
@[simp] theorem setRes_fVariant (v : Word) : (s.setRes v).fVariant = s.fVariant := rfl
@[simp] theorem setRes_fValid (v : Word) : (s.setRes v).fValid = s.fValid := rfl
@[simp] theorem setRes_expVar (v : Word) : (s.setRes v).expVar = s.expVar := rfl
@[simp] theorem setRes_flagMax (v : Word) : (s.setRes v).flagMax = s.flagMax := rfl
@[simp] theorem setRes_pending (v : Word) : (s.setRes v).pending = s.pending := rfl
@[simp] theorem setRes_answer (v : Word) : (s.setRes v).answer = s.answer := rfl
@[simp] theorem setRes_draw (v : Word) : (s.setRes v).draw = s.draw := rfl

@[simp] theorem setErr_rxLen (e : ErrCode) : (s.setErr e).rxLen = s.rxLen := rfl
@[simp] theorem setErr_rx (e : ErrCode) : (s.setErr e).rx = s.rx := rfl
@[simp] theorem setErr_ksLen (e : ErrCode) : (s.setErr e).ksLen = s.ksLen := rfl
@[simp] theorem setErr_kstr (e : ErrCode) : (s.setErr e).kstr = s.kstr := rfl
@[simp] theorem setErr_iv (e : ErrCode) : (s.setErr e).iv = s.iv := rfl
@[simp] theorem setErr_seed (e : ErrCode) : (s.setErr e).seed = s.seed := rfl
@[simp] theorem setErr_key (e : ErrCode) : (s.setErr e).key = s.key := rfl
@[simp] theorem setErr_len (e : ErrCode) : (s.setErr e).len = s.len := rfl
@[simp] theorem setErr_buf (e : ErrCode) : (s.setErr e).buf = s.buf := rfl
@[simp] theorem setErr_frame (e : ErrCode) : (s.setErr e).frame = s.frame := rfl
@[simp] theorem setErr_res (e : ErrCode) : (s.setErr e).res = s.res := rfl
@[simp] theorem setErr_err (e : ErrCode) : (s.setErr e).err = e := rfl
@[simp] theorem setErr_variant (e : ErrCode) : (s.setErr e).variant = s.variant := rfl
@[simp] theorem setErr_fVariant (e : ErrCode) : (s.setErr e).fVariant = s.fVariant := rfl
@[simp] theorem setErr_fValid (e : ErrCode) : (s.setErr e).fValid = s.fValid := rfl
@[simp] theorem setErr_expVar (e : ErrCode) : (s.setErr e).expVar = s.expVar := rfl
@[simp] theorem setErr_flagMax (e : ErrCode) : (s.setErr e).flagMax = s.flagMax := rfl
@[simp] theorem setErr_pending (e : ErrCode) : (s.setErr e).pending = s.pending := rfl
@[simp] theorem setErr_answer (e : ErrCode) : (s.setErr e).answer = s.answer := rfl
@[simp] theorem setErr_draw (e : ErrCode) : (s.setErr e).draw = s.draw := rfl

@[simp] theorem setVariant_rxLen (v : Option Variant) : (s.setVariant v).rxLen = s.rxLen := rfl
@[simp] theorem setVariant_rx (v : Option Variant) : (s.setVariant v).rx = s.rx := rfl
@[simp] theorem setVariant_ksLen (v : Option Variant) : (s.setVariant v).ksLen = s.ksLen := rfl
@[simp] theorem setVariant_kstr (v : Option Variant) : (s.setVariant v).kstr = s.kstr := rfl
@[simp] theorem setVariant_iv (v : Option Variant) : (s.setVariant v).iv = s.iv := rfl
@[simp] theorem setVariant_seed (v : Option Variant) : (s.setVariant v).seed = s.seed := rfl
@[simp] theorem setVariant_key (v : Option Variant) : (s.setVariant v).key = s.key := rfl
@[simp] theorem setVariant_len (v : Option Variant) : (s.setVariant v).len = s.len := rfl
@[simp] theorem setVariant_buf (v : Option Variant) : (s.setVariant v).buf = s.buf := rfl
@[simp] theorem setVariant_frame (v : Option Variant) : (s.setVariant v).frame = s.frame := rfl
@[simp] theorem setVariant_res (v : Option Variant) : (s.setVariant v).res = s.res := rfl
@[simp] theorem setVariant_err (v : Option Variant) : (s.setVariant v).err = s.err := rfl
@[simp] theorem setVariant_variant (v : Option Variant) : (s.setVariant v).variant = v := rfl
@[simp] theorem setVariant_fVariant (v : Option Variant) : (s.setVariant v).fVariant = s.fVariant := rfl
@[simp] theorem setVariant_fValid (v : Option Variant) : (s.setVariant v).fValid = s.fValid := rfl
@[simp] theorem setVariant_expVar (v : Option Variant) : (s.setVariant v).expVar = s.expVar := rfl
@[simp] theorem setVariant_flagMax (v : Option Variant) : (s.setVariant v).flagMax = s.flagMax := rfl
@[simp] theorem setVariant_pending (v : Option Variant) : (s.setVariant v).pending = s.pending := rfl
@[simp] theorem setVariant_answer (v : Option Variant) : (s.setVariant v).answer = s.answer := rfl
@[simp] theorem setVariant_draw (v : Option Variant) : (s.setVariant v).draw = s.draw := rfl

@[simp] theorem setExpVar_rxLen (v : Variant) : (s.setExpVar v).rxLen = s.rxLen := rfl
@[simp] theorem setExpVar_rx (v : Variant) : (s.setExpVar v).rx = s.rx := rfl
@[simp] theorem setExpVar_ksLen (v : Variant) : (s.setExpVar v).ksLen = s.ksLen := rfl
@[simp] theorem setExpVar_kstr (v : Variant) : (s.setExpVar v).kstr = s.kstr := rfl
@[simp] theorem setExpVar_iv (v : Variant) : (s.setExpVar v).iv = s.iv := rfl
@[simp] theorem setExpVar_seed (v : Variant) : (s.setExpVar v).seed = s.seed := rfl
@[simp] theorem setExpVar_key (v : Variant) : (s.setExpVar v).key = s.key := rfl
@[simp] theorem setExpVar_len (v : Variant) : (s.setExpVar v).len = s.len := rfl
@[simp] theorem setExpVar_buf (v : Variant) : (s.setExpVar v).buf = s.buf := rfl
@[simp] theorem setExpVar_frame (v : Variant) : (s.setExpVar v).frame = s.frame := rfl
@[simp] theorem setExpVar_res (v : Variant) : (s.setExpVar v).res = s.res := rfl
@[simp] theorem setExpVar_err (v : Variant) : (s.setExpVar v).err = s.err := rfl
@[simp] theorem setExpVar_variant (v : Variant) : (s.setExpVar v).variant = s.variant := rfl
@[simp] theorem setExpVar_fVariant (v : Variant) : (s.setExpVar v).fVariant = s.fVariant := rfl
@[simp] theorem setExpVar_fValid (v : Variant) : (s.setExpVar v).fValid = s.fValid := rfl
@[simp] theorem setExpVar_expVar (v : Variant) : (s.setExpVar v).expVar = v := rfl
@[simp] theorem setExpVar_flagMax (v : Variant) : (s.setExpVar v).flagMax = s.flagMax := rfl
@[simp] theorem setExpVar_pending (v : Variant) : (s.setExpVar v).pending = s.pending := rfl
@[simp] theorem setExpVar_answer (v : Variant) : (s.setExpVar v).answer = s.answer := rfl
@[simp] theorem setExpVar_draw (v : Variant) : (s.setExpVar v).draw = s.draw := rfl

@[simp] theorem setFlagMax_rxLen (v : BitVec 5) : (s.setFlagMax v).rxLen = s.rxLen := rfl
@[simp] theorem setFlagMax_rx (v : BitVec 5) : (s.setFlagMax v).rx = s.rx := rfl
@[simp] theorem setFlagMax_ksLen (v : BitVec 5) : (s.setFlagMax v).ksLen = s.ksLen := rfl
@[simp] theorem setFlagMax_kstr (v : BitVec 5) : (s.setFlagMax v).kstr = s.kstr := rfl
@[simp] theorem setFlagMax_iv (v : BitVec 5) : (s.setFlagMax v).iv = s.iv := rfl
@[simp] theorem setFlagMax_seed (v : BitVec 5) : (s.setFlagMax v).seed = s.seed := rfl
@[simp] theorem setFlagMax_key (v : BitVec 5) : (s.setFlagMax v).key = s.key := rfl
@[simp] theorem setFlagMax_len (v : BitVec 5) : (s.setFlagMax v).len = s.len := rfl
@[simp] theorem setFlagMax_buf (v : BitVec 5) : (s.setFlagMax v).buf = s.buf := rfl
@[simp] theorem setFlagMax_frame (v : BitVec 5) : (s.setFlagMax v).frame = s.frame := rfl
@[simp] theorem setFlagMax_res (v : BitVec 5) : (s.setFlagMax v).res = s.res := rfl
@[simp] theorem setFlagMax_err (v : BitVec 5) : (s.setFlagMax v).err = s.err := rfl
@[simp] theorem setFlagMax_variant (v : BitVec 5) : (s.setFlagMax v).variant = s.variant := rfl
@[simp] theorem setFlagMax_fVariant (v : BitVec 5) : (s.setFlagMax v).fVariant = s.fVariant := rfl
@[simp] theorem setFlagMax_fValid (v : BitVec 5) : (s.setFlagMax v).fValid = s.fValid := rfl
@[simp] theorem setFlagMax_expVar (v : BitVec 5) : (s.setFlagMax v).expVar = s.expVar := rfl
@[simp] theorem setFlagMax_flagMax (v : BitVec 5) : (s.setFlagMax v).flagMax = v := rfl
@[simp] theorem setFlagMax_pending (v : BitVec 5) : (s.setFlagMax v).pending = s.pending := rfl
@[simp] theorem setFlagMax_answer (v : BitVec 5) : (s.setFlagMax v).answer = s.answer := rfl
@[simp] theorem setFlagMax_draw (v : BitVec 5) : (s.setFlagMax v).draw = s.draw := rfl

@[simp] theorem setPending_rxLen (as : List HostAction) : (s.setPending as).rxLen = s.rxLen := rfl
@[simp] theorem setPending_rx (as : List HostAction) : (s.setPending as).rx = s.rx := rfl
@[simp] theorem setPending_ksLen (as : List HostAction) : (s.setPending as).ksLen = s.ksLen := rfl
@[simp] theorem setPending_kstr (as : List HostAction) : (s.setPending as).kstr = s.kstr := rfl
@[simp] theorem setPending_iv (as : List HostAction) : (s.setPending as).iv = s.iv := rfl
@[simp] theorem setPending_seed (as : List HostAction) : (s.setPending as).seed = s.seed := rfl
@[simp] theorem setPending_key (as : List HostAction) : (s.setPending as).key = s.key := rfl
@[simp] theorem setPending_len (as : List HostAction) : (s.setPending as).len = s.len := rfl
@[simp] theorem setPending_buf (as : List HostAction) : (s.setPending as).buf = s.buf := rfl
@[simp] theorem setPending_frame (as : List HostAction) : (s.setPending as).frame = s.frame := rfl
@[simp] theorem setPending_res (as : List HostAction) : (s.setPending as).res = s.res := rfl
@[simp] theorem setPending_err (as : List HostAction) : (s.setPending as).err = s.err := rfl
@[simp] theorem setPending_variant (as : List HostAction) : (s.setPending as).variant = s.variant := rfl
@[simp] theorem setPending_fVariant (as : List HostAction) : (s.setPending as).fVariant = s.fVariant := rfl
@[simp] theorem setPending_fValid (as : List HostAction) : (s.setPending as).fValid = s.fValid := rfl
@[simp] theorem setPending_expVar (as : List HostAction) : (s.setPending as).expVar = s.expVar := rfl
@[simp] theorem setPending_flagMax (as : List HostAction) : (s.setPending as).flagMax = s.flagMax := rfl
@[simp] theorem setPending_pending (as : List HostAction) : (s.setPending as).pending = as := rfl
@[simp] theorem setPending_answer (as : List HostAction) : (s.setPending as).answer = s.answer := rfl
@[simp] theorem setPending_draw (as : List HostAction) : (s.setPending as).draw = s.draw := rfl

@[simp] theorem setAnswer_rxLen (v : HostAnswer) : (s.setAnswer v).rxLen = s.rxLen := rfl
@[simp] theorem setAnswer_rx (v : HostAnswer) : (s.setAnswer v).rx = s.rx := rfl
@[simp] theorem setAnswer_ksLen (v : HostAnswer) : (s.setAnswer v).ksLen = s.ksLen := rfl
@[simp] theorem setAnswer_kstr (v : HostAnswer) : (s.setAnswer v).kstr = s.kstr := rfl
@[simp] theorem setAnswer_iv (v : HostAnswer) : (s.setAnswer v).iv = s.iv := rfl
@[simp] theorem setAnswer_seed (v : HostAnswer) : (s.setAnswer v).seed = s.seed := rfl
@[simp] theorem setAnswer_key (v : HostAnswer) : (s.setAnswer v).key = s.key := rfl
@[simp] theorem setAnswer_len (v : HostAnswer) : (s.setAnswer v).len = s.len := rfl
@[simp] theorem setAnswer_buf (v : HostAnswer) : (s.setAnswer v).buf = s.buf := rfl
@[simp] theorem setAnswer_frame (v : HostAnswer) : (s.setAnswer v).frame = s.frame := rfl
@[simp] theorem setAnswer_res (v : HostAnswer) : (s.setAnswer v).res = s.res := rfl
@[simp] theorem setAnswer_err (v : HostAnswer) : (s.setAnswer v).err = s.err := rfl
@[simp] theorem setAnswer_variant (v : HostAnswer) : (s.setAnswer v).variant = s.variant := rfl
@[simp] theorem setAnswer_fVariant (v : HostAnswer) : (s.setAnswer v).fVariant = s.fVariant := rfl
@[simp] theorem setAnswer_fValid (v : HostAnswer) : (s.setAnswer v).fValid = s.fValid := rfl
@[simp] theorem setAnswer_expVar (v : HostAnswer) : (s.setAnswer v).expVar = s.expVar := rfl
@[simp] theorem setAnswer_flagMax (v : HostAnswer) : (s.setAnswer v).flagMax = s.flagMax := rfl
@[simp] theorem setAnswer_pending (v : HostAnswer) : (s.setAnswer v).pending = s.pending := rfl
@[simp] theorem setAnswer_answer (v : HostAnswer) : (s.setAnswer v).answer = some v := rfl
@[simp] theorem setAnswer_draw (v : HostAnswer) : (s.setAnswer v).draw = s.draw := rfl

@[simp] theorem advanceDraw_rxLen (k : Nat) : (s.advanceDraw k).rxLen = s.rxLen := rfl
@[simp] theorem advanceDraw_rx (k : Nat) : (s.advanceDraw k).rx = s.rx := rfl
@[simp] theorem advanceDraw_ksLen (k : Nat) : (s.advanceDraw k).ksLen = s.ksLen := rfl
@[simp] theorem advanceDraw_kstr (k : Nat) : (s.advanceDraw k).kstr = s.kstr := rfl
@[simp] theorem advanceDraw_iv (k : Nat) : (s.advanceDraw k).iv = s.iv := rfl
@[simp] theorem advanceDraw_seed (k : Nat) : (s.advanceDraw k).seed = s.seed := rfl
@[simp] theorem advanceDraw_key (k : Nat) : (s.advanceDraw k).key = s.key := rfl
@[simp] theorem advanceDraw_len (k : Nat) : (s.advanceDraw k).len = s.len := rfl
@[simp] theorem advanceDraw_buf (k : Nat) : (s.advanceDraw k).buf = s.buf := rfl
@[simp] theorem advanceDraw_frame (k : Nat) : (s.advanceDraw k).frame = s.frame := rfl
@[simp] theorem advanceDraw_res (k : Nat) : (s.advanceDraw k).res = s.res := rfl
@[simp] theorem advanceDraw_err (k : Nat) : (s.advanceDraw k).err = s.err := rfl
@[simp] theorem advanceDraw_variant (k : Nat) : (s.advanceDraw k).variant = s.variant := rfl
@[simp] theorem advanceDraw_fVariant (k : Nat) : (s.advanceDraw k).fVariant = s.fVariant := rfl
@[simp] theorem advanceDraw_fValid (k : Nat) : (s.advanceDraw k).fValid = s.fValid := rfl
@[simp] theorem advanceDraw_expVar (k : Nat) : (s.advanceDraw k).expVar = s.expVar := rfl
@[simp] theorem advanceDraw_flagMax (k : Nat) : (s.advanceDraw k).flagMax = s.flagMax := rfl
@[simp] theorem advanceDraw_pending (k : Nat) : (s.advanceDraw k).pending = s.pending := rfl
@[simp] theorem advanceDraw_answer (k : Nat) : (s.advanceDraw k).answer = s.answer := rfl
@[simp] theorem advanceDraw_draw (k : Nat) : (s.advanceDraw k).draw = s.draw + k := rfl

end

end Sys2Proof.Machine.State
end

