-- ==== Sys2Proof/Laws/Body.lean ====
section
/-! SUPPORT. What the shared operations can answer: reading a space, the end of a body, the sequencing of stages,
the prologue of the accessors, and the lengths the cipher keeps. -/

namespace Sys2Proof.Machine

/-- Reading a canonical space: the bytes, one by one. -/
theorem readSpace_ok_iff {sp : Space} {m : Memory} (hm : m.wf) {a n : Nat} {bs : List Byte} :
    readSpace sp m a n = .ok bs ↔ bs.length = n ∧ ∀ i, i < n → m.read (a + i) = bs[i]? := by
  rw [← Memory.readRange_eq_some_iff hm, readSpace]
  cases m.readRange a n <;> simp

/-- Reading bytes that all hold a value succeeds. -/
theorem readSpace_of_isSome (sp : Space) {m : Memory} (hm : m.wf) {a n : Nat}
    (h : ∀ i, i < n → (m.read (a + i)).isSome) :
    ∃ bs, readSpace sp m a n = .ok bs ∧ bs.length = n ∧ ∀ i, i < n → m.read (a + i) = bs[i]? := by
  obtain ⟨bs, h1, h2⟩ := Memory.readRange_of_isSome hm h
  exact ⟨bs, by simp [readSpace, h1], h2⟩

@[simp] theorem Body.finish_done (s : State) : (Body.done s).finish = .next (s.setErr .none) := rfl
@[simp] theorem Body.finish_raised (e : ErrCode) (s : State) : (Body.raised e s).finish = .next (s.setErr e) := rfl
@[simp] theorem Body.finish_stuck (f : Fault) : (Body.stuck f).finish = .fault f := rfl

@[simp] theorem Body.andThen_done (s : State) (k : State → Body) : (Body.done s).andThen k = k s := rfl
@[simp] theorem Body.andThen_raised (e : ErrCode) (s : State) (k : State → Body) :
    (Body.raised e s).andThen k = .raised e s := rfl
@[simp] theorem Body.andThen_stuck (f : Fault) (k : State → Body) : (Body.stuck f).andThen k = .stuck f := rfl

@[simp] theorem Body.reading_ok {α : Type} (v : α) (k : α → Body) : Body.reading (.ok v) k = k v := rfl
@[simp] theorem Body.reading_error {α : Type} (f : Fault) (k : α → Body) :
    Body.reading (.error f) k = .stuck f := rfl

/-- A command ends in a next state in two ways: done, with ERR 0, or raised, with the code raised. -/
theorem Body.finish_eq_next_iff {b : Body} {t : State} :
    b.finish = .next t ↔
      (∃ s, b = .done s ∧ t = s.setErr .none) ∨ ∃ e s, b = .raised e s ∧ t = s.setErr e := by
  cases b <;> simp [eq_comm]

/-- A command ends in a fault only where its body is stuck. -/
theorem Body.finish_eq_fault_iff {b : Body} {f : Fault} : b.finish = .fault f ↔ b = .stuck f := by
  cases b <;> simp

/-- No command is refused. -/
theorem Body.finish_ne_refused (b : Body) (r : Refusal) : b.finish ≠ .refused r := by
  cases b <;> simp

theorem Body.andThen_eq_done_iff {b : Body} {k : State → Body} {t : State} :
    b.andThen k = .done t ↔ ∃ s, b = .done s ∧ k s = .done t := by
  cases b <;> simp

theorem Body.andThen_eq_raised_iff {b : Body} {k : State → Body} {e : ErrCode} {t : State} :
    b.andThen k = .raised e t ↔ b = .raised e t ∨ ∃ s, b = .done s ∧ k s = .raised e t := by
  cases b <;> simp

theorem Body.reading_eq_done_iff {α : Type} {r : Except Fault α} {k : α → Body} {t : State} :
    Body.reading r k = .done t ↔ ∃ v, r = .ok v ∧ k v = .done t := by
  cases r <;> simp

theorem Body.reading_eq_raised_iff {α : Type} {r : Except Fault α} {k : α → Body} {e : ErrCode} {t : State} :
    Body.reading r k = .raised e t ↔ ∃ v, r = .ok v ∧ k v = .raised e t := by
  cases r <;> simp

theorem Body.reading_eq_stuck_iff {α : Type} {r : Except Fault α} {k : α → Body} {f : Fault} :
    Body.reading r k = .stuck f ↔ r = .error f ∨ ∃ v, r = .ok v ∧ k v = .stuck f := by
  cases r <;> simp

@[simp] theorem accessorBody_noFrame {s : State} (h : s.fValid = false) (k : Body) :
    accessorBody s k = .raised .noFrame s := by simp [accessorBody, h]

@[simp] theorem accessorBody_frame {s : State} (h : s.fValid = true) (k : Body) : accessorBody s k = k := by
  simp [accessorBody, h]

/-- A field read of a canonical FRAME: the bytes of the element, assembled little-endian. -/
theorem readField_ok_iff {c : Config} {s : State} {name : FieldName} {i : Nat} {w : Word} (hm : s.frame.wf) :
    readField c s name i = .ok w ↔
      ∃ bs : List Byte, bs.length = fieldSize (c.layout name).type ∧
        (∀ j, j < fieldSize (c.layout name).type →
          s.frame.read ((c.layout name).off + i * fieldSize (c.layout name).type + j) = bs[j]?) ∧ le32 bs = w := by
  unfold readField
  simp only
  constructor
  · intro h
    cases hr : readSpace .frame s.frame ((c.layout name).off + i * fieldSize (c.layout name).type)
        (fieldSize (c.layout name).type) with
    | error f => rw [hr] at h; cases h
    | ok bs =>
      rw [hr] at h
      obtain ⟨h1, h2⟩ := (readSpace_ok_iff hm).1 hr
      exact ⟨bs, h1, h2, by simpa [Except.map] using h⟩
  · rintro ⟨bs, h1, h2, rfl⟩
    rw [(readSpace_ok_iff hm).2 ⟨h1, h2⟩]
    rfl

theorem length_flatMap_blocks (f : Nat → Vector Byte 64) (n : Nat) :
    ((List.range n).flatMap fun j => (f j).toList).length = 64 * n := by
  induction n with
  | zero => simp
  | succ n ih => simp [List.range_succ, List.flatMap_append, ih, Nat.mul_succ]

/-- The keystream is as long as asked. -/
@[simp] theorem length_keystream (c : Config) (k : Vector Byte 32) (n : Vector Byte 8) (len : Nat) :
    (keystream c k n len).length = len := by
  rw [keystream, List.length_take, length_flatMap_blocks (fun j => c.ksblock k n (BitVec.ofNat 64 j))]
  omega

/-- The cipher keeps the length (R130, R148 (a)). -/
@[simp] theorem length_cryptBytes (c : Config) (k : Vector Byte 32) (n : Vector Byte 8) (bs : List Byte) :
    (cryptBytes c k n bs).length = bs.length := by
  simp [cryptBytes]

end Sys2Proof.Machine
end

