-- ==== Sys2Proof/Laws/Accessors.lean ====
section
/-! SUPPORT. Everything the body of each accessor can answer: without a frame it raises NoFrame, with one it writes
RES (and the draw counter). And every command's meaning as the end of one body. -/

namespace Sys2Proof.Machine

variable {c : Config} {s t : State} {e : ErrCode} {i : Int}

theorem accessorBody_reading_done_iff {α : Type} {r : Except Fault α} {k : α → State} :
    accessorBody s (.reading r fun x => .done (k x)) = .done t ↔ s.fValid = true ∧ ∃ x, r = .ok x ∧ t = k x := by
  cases h : s.fValid <;> simp [h, Body.reading_eq_done_iff, eq_comm (b := t)]

theorem accessorBody_reading_raised_iff {α : Type} {r : Except Fault α} {k : α → State} :
    accessorBody s (.reading r fun x => .done (k x)) = .raised e t ↔ s.fValid = false ∧ e = .noFrame ∧ t = s := by
  cases h : s.fValid <;> simp [h, Body.reading_eq_raised_iff, eq_comm (b := t), eq_comm (b := e)]

theorem gearcBody_done_iff :
    gearcBody c s = .done t ↔ s.fValid = true ∧ ∃ f, readField c s .gears 0 = .ok f ∧
      t = s.setRes (((f.setWidth 8 : Byte) &&& 0x0F).setWidth 32) := accessorBody_reading_done_iff

theorem gearcBody_raised_iff : gearcBody c s = .raised e t ↔ s.fValid = false ∧ e = .noFrame ∧ t = s :=
  accessorBody_reading_raised_iff

theorem gearsBody_done_iff :
    gearsBody c s = .done t ↔ s.fValid = true ∧ ∃ f, readField c s .gears 0 = .ok f ∧
      t = s.setRes (((f.setWidth 8 : Byte) >>> 4).setWidth 32) := accessorBody_reading_done_iff

theorem gearsBody_raised_iff : gearsBody c s = .raised e t ↔ s.fValid = false ∧ e = .noFrame ∧ t = s :=
  accessorBody_reading_raised_iff

theorem ptrainBody_done_iff :
    ptrainBody c s = .done t ↔ s.fValid = true ∧ ∃ f, readField c s .fuelCapacity 0 = .ok f ∧
      t = (s.setRes (powertrain (c.numerics.f2u8 s.draw f)).code).advanceDraw 1 := accessorBody_reading_done_iff

theorem ptrainBody_raised_iff : ptrainBody c s = .raised e t ↔ s.fValid = false ∧ e = .noFrame ∧ t = s :=
  accessorBody_reading_raised_iff

theorem tspdBody_done_iff :
    tspdBody c i s = .done t ↔ s.fValid = true ∧ ∃ x, tireSpeed c s i = .ok x ∧ t = (s.setRes x).advanceDraw 2 :=
  accessorBody_reading_done_iff

theorem tspdBody_raised_iff : tspdBody c i s = .raised e t ↔ s.fValid = false ∧ e = .noFrame ∧ t = s :=
  accessorBody_reading_raised_iff

theorem tslipBody_done_iff :
    tslipBody c i s = .done t ↔ s.fValid = true ∧ ∃ x, slipRatio c s i = .ok x ∧ t = (s.setRes x).advanceDraw 4 :=
  accessorBody_reading_done_iff

theorem tslipBody_raised_iff : tslipBody c i s = .raised e t ↔ s.fValid = false ∧ e = .noFrame ∧ t = s :=
  accessorBody_reading_raised_iff

theorem flagBody_done_iff :
    flagBody c i s = .done t ↔ s.fValid = true ∧ ∃ f, readField c s .flags 0 = .ok f ∧
      t = s.setRes (if flagQuery (f.setWidth 16) i s.flagMax.toNat then 1 else 0) := accessorBody_reading_done_iff

theorem flagBody_raised_iff : flagBody c i s = .raised e t ↔ s.fValid = false ∧ e = .noFrame ∧ t = s :=
  accessorBody_reading_raised_iff

/-- The body each command runs with the default configuration. -/
def bodyOf (i : Instr) (s : State) : Body :=
  match i with
  | .decode => decodeBody params s
  | .vdet => vdetBody params s
  | .ivder => ivderBody params s
  | .keyld => keyldBody s
  | .ldbuf => ldbufBody params s
  | .crypt => cryptBody params s
  | .demarsh => demarshBody params s
  | .gearc => gearcBody params s
  | .gears => gearsBody params s
  | .ptrain => ptrainBody params s
  | .tspd idx => tspdBody params idx s
  | .tslip idx => tslipBody params idx s
  | .flag idx => flagBody params idx s

/-- Every command is the end of its body. -/
theorem exec_eq_finish (i : Instr) (s : State) : exec i s = (bodyOf i s).finish := by
  cases i <;> rfl

/-- No command is refused. -/
theorem exec_ne_refused (i : Instr) (s : State) (r : Refusal) : exec i s ≠ .refused r := by
  rw [exec_eq_finish]
  exact Body.finish_ne_refused _ r

end Sys2Proof.Machine
end

