-- ==== Sys2Proof/Laws/PerInstr.lean ====
section
/-! SUPPORT. Statements about every command as syntax, one lemma per constructor. -/

namespace Sys2Proof.Laws.EncodeRow

/-- The `mask` column of R94. -/
def rowMask : Instr → Half
  | .decode | .vdet | .ivder | .keyld | .ldbuf | .crypt | .demarsh | .gearc | .gears | .ptrain => 0xFFFF
  | .tspd _ | .tslip _ | .flag _ => 0xFF00

/-- The `match` column of R94. -/
def rowMatch : Instr → Half
  | .decode => 0x0100
  | .vdet => 0x0200
  | .ivder => 0x0300
  | .keyld => 0x0400
  | .ldbuf => 0x0500
  | .crypt => 0x0600
  | .demarsh => 0x0700
  | .gearc => 0x1000
  | .gears => 0x1100
  | .ptrain => 0x1200
  | .tspd _ => 0x1300
  | .tslip _ => 0x1400
  | .flag _ => 0x1500

/-- The word of a command selects its row of the opcode map (R94). -/
def Statement (i : Instr) : Prop := encode i &&& rowMask i = rowMatch i

theorem decode : Statement .decode := by unfold Statement; decide
theorem vdet : Statement .vdet := by unfold Statement; decide
theorem ivder : Statement .ivder := by unfold Statement; decide
theorem keyld : Statement .keyld := by unfold Statement; decide
theorem ldbuf : Statement .ldbuf := by unfold Statement; decide
theorem crypt : Statement .crypt := by unfold Statement; decide
theorem demarsh : Statement .demarsh := by unfold Statement; decide
theorem gearc : Statement .gearc := by unfold Statement; decide
theorem gears : Statement .gears := by unfold Statement; decide
theorem ptrain : Statement .ptrain := by unfold Statement; decide

/-- The operand field does not reach the opcode byte. -/
theorem makeWord_and_opcode (op k : Byte) : makeWord op k &&& 0xFF00 = makeWord op 0 := by
  apply BitVec.eq_of_getLsbD_eq
  intro i hi
  simp only [makeWord, BitVec.getLsbD_and, BitVec.getLsbD_append]
  interval_cases i <;> simp

theorem tspd (idx : Int) : Statement (.tspd idx) := makeWord_and_opcode _ _
theorem tslip (idx : Int) : Statement (.tslip idx) := makeWord_and_opcode _ _
theorem flag (idx : Int) : Statement (.flag idx) := makeWord_and_opcode _ _

end Sys2Proof.Laws.EncodeRow
end

