-- ==== Sys2Proof/Laws/Pipeline.lean ====
section
/-! SUPPORT. Everything the body of each pipeline command can answer: when it is done and with which writes, and
when it raises what. -/

namespace Sys2Proof.Machine

variable {c : Config} {s t : State} {e : ErrCode} {v : Variant}

theorem vdetBody_done_iff :
    vdetBody c s = .done t ↔ ∃ v, classify c s.rxLen.toNat = some v ∧ t = s.setVariant (some v) := by
  unfold vdetBody
  cases classify c s.rxLen.toNat <;> simp [eq_comm]

theorem vdetBody_raised_iff :
    vdetBody c s = .raised e t ↔
      classify c s.rxLen.toNat = none ∧ e = .unrecognizedVariant ∧ t = s.setVariant none := by
  unfold vdetBody
  cases classify c s.rxLen.toNat <;> simp [eq_comm]

theorem vdetBody_ne_stuck (f : Fault) : vdetBody c s ≠ .stuck f := by
  unfold vdetBody
  cases classify c s.rxLen.toNat <;> simp

theorem ivderBody_done_iff :
    ivderBody c s = .done t ↔
      ∃ v d, s.variant = some v ∧ c.seedOff + 4 ≤ s.rxLen.toNat ∧ seedBytes c s = .ok d ∧
        t = (s.setSeed (le32 d)).setIv (deriveIv c v (le32 d)) := by
  unfold ivderBody
  cases s.variant with
  | none => simp
  | some v =>
    simp only
    split
    · simp; omega
    · simp only [Body.reading_eq_done_iff, Body.done.injEq, Option.some.injEq]
      constructor
      · rintro ⟨d, h, rfl⟩; exact ⟨v, d, rfl, by omega, h, rfl⟩
      · rintro ⟨_, d, rfl, _, h, rfl⟩; exact ⟨d, h, rfl⟩

theorem ivderBody_raised_iff :
    ivderBody c s = .raised e t ↔
      t = s ∧ ((s.variant = none ∧ e = .unrecognizedVariant) ∨
        ∃ v, s.variant = some v ∧ s.rxLen.toNat < c.seedOff + 4 ∧ e = .truncatedSeed) := by
  unfold ivderBody
  cases s.variant with
  | none => simp [eq_comm, and_comm]
  | some v =>
    simp only
    split
    · simp_all [eq_comm, and_comm]
    · simp_all [Body.reading_eq_raised_iff]

theorem keyldBody_done_iff :
    keyldBody s = .done t ↔ ∃ d, keyStringRead s = .ok d ∧ t = s.setKey (formatKey d) := by
  simp [keyldBody, Body.reading_eq_done_iff, eq_comm (b := t)]

theorem keyldBody_ne_raised : keyldBody s ≠ .raised e t := by
  simp [keyldBody, Body.reading_eq_raised_iff]

theorem ldbufBody_done_iff :
    ldbufBody c s = .done t ↔
      s.rxLen.toNat ≤ c.bufCap ∧ ∃ d, datagram s = .ok d ∧ t = s.setBuf s.rxLen (Memory.ofBytes d) := by
  unfold ldbufBody
  split
  · simp; omega
  · simp only [Body.reading_eq_done_iff, Body.done.injEq, eq_comm (b := t)]
    constructor
    · intro h; exact ⟨by omega, h⟩
    · exact fun h => h.2

theorem ldbufBody_raised_iff :
    ldbufBody c s = .raised e t ↔ c.bufCap < s.rxLen.toNat ∧ e = .lengthOverflow ∧ t = s := by
  unfold ldbufBody
  split
  · simp_all [eq_comm]
  · simp_all [Body.reading_eq_raised_iff]

theorem cryptBody_done_iff :
    cryptBody c s = .done t ↔
      ∃ d, bufferBytes s = .ok d ∧ t = s.setBuf s.len (s.buf.write 0 (cryptBytes c s.key s.iv d)) := by
  simp [cryptBody, Body.reading_eq_done_iff, eq_comm (b := t)]

theorem cryptBody_ne_raised : cryptBody c s ≠ .raised e t := by
  simp [cryptBody, Body.reading_eq_raised_iff]

theorem acceptFrame_done_iff :
    acceptFrame v s = .done t ↔ ∃ d, bufferBytes s = .ok d ∧ t = s.setFrame (s.frame.write 0 d) v := by
  simp [acceptFrame, Body.reading_eq_done_iff, eq_comm (b := t)]

theorem acceptFrame_ne_raised : acceptFrame v s ≠ .raised e t := by
  simp [acceptFrame, Body.reading_eq_raised_iff]

theorem demarshBody_done_iff :
    demarshBody c s = .done t ↔
      ∃ v d, s.variant = some v ∧ s.len.toNat = c.size v ∧ (c.hasMagic v = true → bufferMagic s = .ok c.magic) ∧
        bufferBytes s = .ok d ∧ t = s.setFrame (s.frame.write 0 d) v := by
  unfold demarshBody
  cases s.variant with
  | none => simp
  | some v =>
    simp only [Option.some.injEq, ne_eq]
    split
    · simp_all
    · rename_i hl
      split
      · rename_i hm
        rw [Body.reading_eq_done_iff]
        constructor
        · rintro ⟨m, h1, h2⟩
          split at h2
          · cases h2
          · obtain ⟨d, h3, h4⟩ := acceptFrame_done_iff.1 h2
            exact ⟨v, d, rfl, not_not.1 hl, fun _ => by simp_all, h3, h4⟩
        · rintro ⟨_, d, rfl, h1, h2, h3, h4⟩
          exact ⟨_, h2 hm, by simpa using acceptFrame_done_iff.2 ⟨d, h3, h4⟩⟩
      · rename_i hm
        rw [acceptFrame_done_iff]
        constructor
        · rintro ⟨d, h3, h4⟩
          exact ⟨v, d, rfl, not_not.1 hl, fun h => absurd h hm, h3, h4⟩
        · rintro ⟨_, d, rfl, h1, h2, h3, h4⟩
          exact ⟨d, h3, h4⟩

theorem demarshBody_raised_iff :
    demarshBody c s = .raised e t ↔
      t = s ∧ ((s.variant = none ∧ e = .unrecognizedVariant) ∨
        (∃ v, s.variant = some v ∧ s.len.toNat ≠ c.size v ∧ e = .sizeMismatch) ∨
        ∃ v m, s.variant = some v ∧ s.len.toNat = c.size v ∧ c.hasMagic v = true ∧ bufferMagic s = .ok m ∧
          m ≠ c.magic ∧ e = .signatureMismatch) := by
  unfold demarshBody
  cases s.variant with
  | none => simp [eq_comm (b := t), eq_comm (b := e), and_comm]
  | some v =>
    simp only [Option.some.injEq, ne_eq, reduceCtorEq, false_and, false_or]
    split
    · rename_i hl
      constructor
      · intro h; cases h; exact ⟨rfl, .inl ⟨v, rfl, hl, rfl⟩⟩
      · rintro ⟨rfl, ⟨_, rfl, _, rfl⟩ | ⟨_, _, rfl, h, _⟩⟩
        · rfl
        · exact absurd h hl
    · rename_i hl
      split
      · rename_i hm
        rw [Body.reading_eq_raised_iff]
        constructor
        · rintro ⟨m, h1, h2⟩
          split at h2
          · rename_i hne
            cases h2
            exact ⟨rfl, .inr ⟨v, m, rfl, not_not.1 hl, hm, h1, hne, rfl⟩⟩
          · exact absurd h2 acceptFrame_ne_raised
        · rintro ⟨rfl, ⟨_, rfl, h, _⟩ | ⟨_, m, rfl, _, _, h1, h2, rfl⟩⟩
          · exact absurd h hl
          · exact ⟨m, h1, by simp [h2]⟩
      · rename_i hm
        constructor
        · intro h; exact absurd h acceptFrame_ne_raised
        · rintro ⟨_, ⟨_, rfl, h, _⟩ | ⟨_, _, rfl, _, h, _⟩⟩
          · exact absurd h hl
          · exact absurd h hm

/-- DECODE runs to its end exactly when every stage does (R210). -/
theorem decodeBody_done_iff :
    decodeBody c s = .done t ↔
      ∃ s1 s2 s4 s5, vdetBody c s = .done s1 ∧ ivderBody c s1 = .done s2 ∧
        ldbufBody c (s2.setKey (keyProto c)) = .done s4 ∧ cryptBody c s4 = .done s5 ∧ demarshBody c s5 = .done t := by
  simp only [decodeBody, Body.andThen_eq_done_iff, protocolKeyBody, Body.done.injEq]
  constructor
  · rintro ⟨s5, ⟨s4, ⟨_, ⟨s2, ⟨s1, h1, h2⟩, rfl⟩, h4⟩, h5⟩, h6⟩
    exact ⟨s1, s2, s4, s5, h1, h2, h4, h5, h6⟩
  · rintro ⟨s1, s2, s4, s5, h1, h2, h4, h5, h6⟩
    exact ⟨s5, ⟨s4, ⟨_, ⟨s2, ⟨s1, h1, h2⟩, rfl⟩, h4⟩, h5⟩, h6⟩

/-- DECODE raises what the first failing stage raises (R210, R228). -/
theorem decodeBody_raised_iff :
    decodeBody c s = .raised e t ↔
      vdetBody c s = .raised e t ∨ ∃ s1, vdetBody c s = .done s1 ∧ (ivderBody c s1 = .raised e t ∨
        ∃ s2, ivderBody c s1 = .done s2 ∧ (ldbufBody c (s2.setKey (keyProto c)) = .raised e t ∨
          ∃ s4 s5, ldbufBody c (s2.setKey (keyProto c)) = .done s4 ∧ cryptBody c s4 = .done s5 ∧
            demarshBody c s5 = .raised e t)) := by
  simp only [decodeBody]
  cases vdetBody c s with
  | raised e' t' => simp
  | stuck f => simp
  | done s1 =>
    simp only [Body.andThen_done, reduceCtorEq, false_or, Body.done.injEq, exists_eq_left']
    cases ivderBody c s1 with
    | raised e' t' => simp
    | stuck f => simp
    | done s2 =>
      simp only [Body.andThen_done, reduceCtorEq, false_or, Body.done.injEq, exists_eq_left', protocolKeyBody]
      cases ldbufBody c (s2.setKey (keyProto c)) with
      | raised e' t' => simp
      | stuck f => simp
      | done s4 =>
        simp only [Body.andThen_done, reduceCtorEq, false_or, Body.done.injEq]
        cases h : cryptBody c s4 with
        | raised e' t' => exact absurd h cryptBody_ne_raised
        | stuck f => simp [h]
        | done s5 => simp [h]

end Sys2Proof.Machine
end

