-- ==== Sys2Proof/Tests/Slice0.lean ====
section
/-! SUPPORT. The model's own tests: decoding words written out from R94, ill-formed commands, the vectors of
95_test_vectors.md, and for every statement with hypotheses a witness that meets them. -/

namespace Sys2Proof.Tests

set_option Elab.async false

open Sys2Proof.Machine

/-! ### Helpers -/

/-- A state that holds a datagram, a buffer and, as a VariantA frame, the bytes of `f`. -/
def bench (d b f : List Byte) : State :=
  ((State.reset.setRx (BitVec.ofNat 16 d.length) (Memory.ofBytes d)).setBuf (BitVec.ofNat 16 b.length)
    (Memory.ofBytes b)).setFrame (Memory.ofBytes f) .a

theorem bench_inv {d b f : List Byte} (hd : d.length ≤ 4096) (hb : b.length ≤ 4096) (hf : f.length = 296) :
    (bench d b f).Inv := by
  refine ⟨⟨Memory.ofBytes_wf _, List.Pairwise.nil, Memory.ofBytes_wf _, Memory.ofBytes_wf _⟩, ?_, ?_, ?_, ?_, rfl,
    ?_, ?_, ?_⟩
  · intro a; simp [bench, params]; omega
  · intro a; simp [bench, State.reset, Memory.read]
  · intro a; simp [bench]; omega
  · simp [bench, params]; omega
  · intro v hv a ha
    cases hv
    have : a < 296 := ha
    simp [bench]; omega
  · intro a
    simp only [bench, State.setFrame_frame, Memory.read_ofBytes]
    intro h
    have h1 : frameCap params = 344 := by decide
    have h2 : a < f.length := by simpa using h
    omega
  · show (12 : BitVec 5).toNat ≤ 16
    decide

/-- RES of the next state, if there is one. -/
def resOf : Host.Outcome State Fault Refusal → Option Word
  | .next t => some t.res
  | _ => none

/-- ERR of the next state, if there is one. -/
def errOf : Host.Outcome State Fault Refusal → Option ErrCode
  | .next t => some t.err
  | _ => none

/-- A part of the next state, if there is one. -/
def partOf {α : Type} (f : State → α) : Host.Outcome State Fault Refusal → Option α
  | .next t => some (f t)
  | _ => none

theorem next_of_partOf {α : Type} {f : State → α} {o : Host.Outcome State Fault Refusal} {x : α}
    (h : partOf f o = some x) : ∃ t, o = .next t ∧ f t = x := by
  cases o with
  | next t => exact ⟨t, rfl, by simpa [partOf] using h⟩
  | fault e => cases h
  | refused r => cases h

/-- The frame of 95_test_vectors.md T30, the fields the accessors read, every other byte 0. -/
def frameA : List Byte :=
  [0x30, 0x53, 0x37, 0x47] ++ List.replicate 68 0 ++
  [0x00, 0x00, 0xC8, 0x42, 0x00, 0x00, 0x48, 0x42] ++ List.replicate 62 0 ++ [0x09, 0x00, 0x23] ++ List.replicate 19 0 ++
  [0x00, 0x00, 0x1B, 0xC3, 0x00, 0x80, 0x1B, 0xC3, 0x00, 0x00, 0x20, 0xC3, 0x00, 0x40, 0x21, 0xC3] ++
  [0xD3, 0x4D, 0xA2, 0x3E, 0xD3, 0x4D, 0xA2, 0x3E, 0xC3, 0xF5, 0xA8, 0x3E, 0xC3, 0xF5, 0xA8, 0x3E] ++
  List.replicate 100 0

/-- A state that holds that frame. -/
def framed : State := bench [] [] frameA

/-- A state whose frame is 296 zero bytes. -/
def zeroFramed : State := bench [] [] (List.replicate 296 0)

/-- A datagram of 68 bytes that ends in the seed bytes 78 56 34 12 (95_test_vectors.md T12, T13). -/
def seedDatagram : List Byte := List.replicate 64 0 ++ [0x78, 0x56, 0x34, 0x12]

/-- DGRAM_A of 95_test_vectors.md T30. -/
def dgramA0 : List Byte := [
    0xD7, 0x32, 0x16, 0x7A, 0x5E, 0xE1, 0x33, 0x61, 0x1F, 0x1E, 0x6E, 0x2E, 0xBD, 0x89, 0xF9, 0x02,
    0x18, 0xEA, 0x74, 0x03, 0x79, 0x5A, 0xB1, 0x0B, 0x46, 0xE1, 0x63, 0x57, 0xF0, 0x13, 0xA4, 0xE0,
    0xFA, 0x87, 0xA8, 0x18, 0x22, 0xAD, 0xDC, 0xCF, 0x1B, 0x60, 0xDA, 0xF1, 0xE7, 0x77, 0xD3, 0x1D,
    0xED, 0x16, 0xC8, 0xCE, 0xF2, 0xDA, 0x66, 0xBB, 0xAE, 0xD7, 0xB7, 0x93, 0x78, 0xA0, 0xA1, 0xC2,
    0x78, 0x56, 0x34, 0x12, 0xE0, 0x30, 0x4E, 0x75, 0x9E, 0x6A, 0x81, 0x4E, 0xC9, 0xD4, 0x08, 0xF2]

def dgramA1 : List Byte := [
    0xCA, 0xE9, 0xC2, 0x20, 0x8D, 0x45, 0x8B, 0x38, 0xF4, 0x22, 0xD9, 0x57, 0x96, 0xAD, 0x2B, 0xA5,
    0x14, 0x96, 0xB7, 0x9F, 0xB7, 0xD5, 0x6F, 0x41, 0xA1, 0x2E, 0x4B, 0x6B, 0x2A, 0x82, 0x48, 0x94,
    0x1F, 0xE2, 0xE7, 0xAF, 0x9A, 0xA1, 0xD1, 0x65, 0xBD, 0xCD, 0xCC, 0x4B, 0xDB, 0xEA, 0x70, 0xE9,
    0x79, 0x68, 0x4B, 0xB3, 0x22, 0x7B, 0x4C, 0x8B, 0xA1, 0xB4, 0xE1, 0x50, 0xAF, 0x9C, 0x72, 0x35,
    0xA0, 0x88, 0x6F, 0x5B, 0x3B, 0x68, 0xC5, 0x17, 0xC4, 0xD5, 0xC5, 0x1D, 0xFE, 0x0E, 0x22, 0x1C]

def dgramA2 : List Byte := [
    0x0E, 0xD2, 0xD8, 0x8E, 0x29, 0x01, 0x4B, 0x32, 0x4C, 0x77, 0x5E, 0x86, 0x36, 0xC8, 0xFD, 0xCE,
    0xC4, 0x24, 0x0B, 0xAC, 0xE8, 0xC3, 0x1C, 0xE5, 0xD2, 0xEA, 0xAC, 0x23, 0x0D, 0x7B, 0x19, 0xDD,
    0xCA, 0xD4, 0x8C, 0xAE, 0xEA, 0x6F, 0x18, 0xC6, 0xA0, 0xA9, 0xEB, 0x17, 0x5F, 0xC1, 0xBB, 0xEC,
    0xA0, 0xA0, 0xF8, 0xDB, 0x41, 0x9E, 0x91, 0x0A, 0xCF, 0xB7, 0xEC, 0x38, 0x66, 0x0E, 0xB7, 0x37,
    0x7C, 0xF8, 0x76, 0x6A, 0x37, 0x1B, 0x60, 0xB9, 0x99, 0x0D, 0x5D, 0xAD, 0xF6, 0x6B, 0x40, 0x53]

def dgramA3 : List Byte := [
    0xC4, 0x09, 0xA9, 0xBE, 0x8A, 0x31, 0xB8, 0x09, 0x50, 0x7F, 0x4C, 0x62, 0x18, 0x82, 0xAA, 0x1C,
    0x5A, 0x31, 0xF1, 0x26, 0x6A, 0x9E, 0xE3, 0xCE, 0x01, 0x3E, 0x05, 0x1D, 0x64, 0xFE, 0xA8, 0xCD,
    0x52, 0xD4, 0xD4, 0x97, 0x69, 0x11, 0x43, 0x45, 0xE0, 0x02, 0x66, 0xB5, 0x1D, 0x5F, 0x3F, 0xD4,
    0x22, 0xA0, 0x88, 0x94, 0xA4, 0xCD, 0xBD, 0x67]

def dgramA : List Byte := dgramA0 ++ dgramA1 ++ dgramA2 ++ dgramA3

/-- A state DGRAM_A was delivered to. -/
def delivered : State := bench dgramA [] frameA

/-- DGRAM_A with byte 0 changed from D7 to D6 (T33 b). -/
def corrupted : State := bench (0xD6 :: dgramA.drop 1) [] frameA

/-! ### Decoding (R94, R95), written out bit by bit -/

theorem test_decode_pipeline :
    decodeWord 0b0000000100000000 = .ok .decode ∧ decodeWord 0b0000001000000000 = .ok .vdet ∧
    decodeWord 0b0000001100000000 = .ok .ivder ∧ decodeWord 0b0000010000000000 = .ok .keyld ∧
    decodeWord 0b0000010100000000 = .ok .ldbuf ∧ decodeWord 0b0000011000000000 = .ok .crypt ∧
    decodeWord 0b0000011100000000 = .ok .demarsh := by decide +kernel

theorem test_decode_accessors :
    decodeWord 0b0001000000000000 = .ok .gearc ∧ decodeWord 0b0001000100000000 = .ok .gears ∧
    decodeWord 0b0001001000000000 = .ok .ptrain ∧ decodeWord 0b0001001111111111 = .ok (.tspd (-1)) ∧
    decodeWord 0b0001010001111111 = .ok (.tslip 127) ∧ decodeWord 0b0001010110000000 = .ok (.flag (-128)) := by decide +kernel

/-- T60. -/
theorem test_illegal_words :
    ([0x0000, 0x0001, 0x00FF, 0x0101, 0x02FF, 0x0780, 0x0800, 0x0F00, 0x1001, 0x1101, 0x1280, 0x1600, 0x16FF, 0x2000,
      0x8000, 0xFF00, 0xFFFF] : List Half).all (fun w => !(decodeWord w).isOk) = true := by decide +kernel

theorem test_ill_formed : (Instr.tspd 128).wf = false ∧ (Instr.tslip (-129)).wf = false ∧ (Instr.flag 128).wf = false := by
  decide +kernel

theorem test_table_word : decodeTableWord 16 0x1303 = some (.tspd 3) ∧ decodeTableWord 16 0x0101 = none := by decide +kernel

/-! ### Steps, host actions, errors -/

/-- T10, first row: after reset, VDET gives ERR 1. -/
theorem test_fetch_word : errOf (step (State.reset.withFetchWord 16 0x0200)) = some .unrecognizedVariant := by decide +kernel

/-- T51, T60: GEARC and an illegal word right after reset. -/
theorem test_errors_after_reset :
    errOf (step (State.reset.withFetchWord 16 0x1000)) = some .noFrame ∧
    errOf (step (State.reset.withFetchWord 16 0x0101)) = some .illegalCommand := by decide +kernel

/-- R39: STATUS is 0 after reset. -/
theorem test_status_reset : statusWord State.reset = 0 := by decide +kernel

/-- T13: IVDER with 67 and with 68 bytes; T12, first row. -/
theorem test_ivder :
    errOf (exec .ivder ((bench (seedDatagram.take 67) [] []).setVariant (some .a))) = some .truncatedSeed ∧
    partOf (fun t => (t.seed, t.iv.toList)) (exec .ivder ((bench seedDatagram [] []).setVariant (some .a))) =
      some (0x12345678, [0xD7, 0xE8, 0x99, 0xCC, 0x78, 0x56, 0x34, 0x12]) := by decide +kernel

/-- T12: the IV of seed 0xCAFEF00D, VariantC. -/
theorem test_derive_iv :
    (deriveIv params .c 0xCAFEF00D).toList = [0x42, 0x4B, 0x04, 0x9F, 0x0D, 0xF0, 0xFE, 0xCA] := by decide +kernel

/-- T21: KEYLD of "abc". -/
theorem test_keyld :
    partOf (fun t => t.key.toList.take 5) (exec .keyld (State.reset.setKstr 3 (Memory.ofBytes [0x61, 0x62, 0x63]))) =
      some [0x61, 0x62, 0x63, 0x00, 0x00] := by decide +kernel

/-- T22: LDBUF of 47 54 37. -/
theorem test_ldbuf :
    partOf (fun t => (t.len, t.buf)) (exec .ldbuf (bench [0x47, 0x54, 0x37] [] [])) =
      some (3, [(0, 0x47), (1, 0x54), (2, 0x37)]) := by decide +kernel

/-- T16, fourth row. -/
theorem test_quarterround :
    quarterround 0xE7E8C006 0xC4F9417D 0x6479B4B2 0x68C67137 = ⟨0xE876D72B, 0x9361DFD5, 0xF1460244, 0x948541A3⟩ := by
  decide +kernel

/-- T18: block 0 of the published vector. -/
theorem test_salsa20_block :
    (salsa20Block (formatKey [0x80]) (fixedBytes 8 []) 0).toList =
      [0xE3, 0xBE, 0x8F, 0xDD, 0x8B, 0xEC, 0xA2, 0xE3, 0xEA, 0x8E, 0xF9, 0x47, 0x5B, 0x29, 0xA6, 0xE7,
        0x00, 0x39, 0x51, 0xE1, 0x09, 0x7A, 0x5C, 0x38, 0xD2, 0x3B, 0x7A, 0x5F, 0xAD, 0x9F, 0x68, 0x44,
        0xB2, 0x2C, 0x97, 0x55, 0x9E, 0x27, 0x23, 0xC7, 0xCB, 0xBD, 0x3F, 0xE4, 0xFC, 0x8D, 0x9A, 0x07,
        0x44, 0x65, 0x2A, 0x83, 0xE7, 0x2A, 0x9C, 0x46, 0x18, 0x76, 0xAF, 0x4D, 0x7E, 0xF1, 0xA1, 0x17] := by decide +kernel

/-- T17: a block with both counter words set. -/
theorem test_salsa20_counter :
    (salsa20Block
      (formatKey ([1, 2, 3, 4, 5, 6, 7, 8, 9, 10, 11, 12, 13, 14, 15, 16] ++
        [201, 202, 203, 204, 205, 206, 207, 208, 209, 210, 211, 212, 213, 214, 215, 216]))
      (fixedBytes 8 [101, 102, 103, 104, 105, 106, 107, 108]) 0x74737271706F6E6D).toList.take 8 =
      [0x45, 0x25, 0x44, 0x27, 0x29, 0x0F, 0x6B, 0xC1] := by decide +kernel

/-- T23: CRYPT of "GT7". -/
theorem test_crypt :
    partOf (·.buf) (exec .crypt ((bench [] [0x47, 0x54, 0x37] []).setIv (deriveIv params .a 0x12345678))) =
      some [(0, 0xA0), (1, 0x35), (2, 0x16)] := by decide +kernel

/-- T26, T27, T28: DEMARSH accepts, and the two rejections. -/
theorem test_demarsh :
    errOf (exec .demarsh ((bench [] frameA []).setVariant (some .a))) = some .none ∧
    errOf (exec .demarsh ((bench [] (0x31 :: frameA.drop 1) []).setVariant (some .a))) = some .signatureMismatch ∧
    errOf (exec .demarsh ((bench [] frameA []).setVariant (some .c))) = some .sizeMismatch := by decide +kernel

/-- T30: DECODE of DGRAM_A. -/
theorem test_decode :
    partOf (fun t => (statusWord t, t.seed, t.len)) (exec .decode delivered) = some (0x0150, 0x12345678, 296) ∧
    partOf (fun t => (t.frame.readRange 0x40 4, t.frame.readRange 0x8E 4)) (exec .decode delivered) =
      some (some [0xE7, 0x51, 0x53, 0x8C], some [0x09, 0x00, 0x23, 0xFF]) := by decide +kernel

/-- T33 (b): the corrupted signature. -/
theorem test_decode_corrupted :
    partOf (fun t => (t.err, t.buf.readRange 0 4)) (exec .decode corrupted) =
      some (.signatureMismatch, some [0x31, 0x53, 0x37, 0x47]) := by decide +kernel

/-! ### Accessors, on the frame of T30 -/

/-- T1: gear byte 0x23. -/
theorem test_gears : resOf (exec .gearc framed) = some 3 ∧ resOf (exec .gears framed) = some 2 := by decide +kernel

/-- T41: 100.0 is standard, 0.0 electric. -/
theorem test_ptrain : resOf (exec .ptrain framed) = some 1 ∧ resOf (exec .ptrain zeroFramed) = some 2 := by decide +kernel

/-- T41: F2U8 of 100.0, -0.0, 0.99, -0.5, the least subnormal, 5.99, 255.5. -/
theorem test_f2u8 :
    [0x42C80000, 0x80000000, 0x3F7D70A4, 0xBF000000, 0x00000001, 0x40BFAE14, 0x437F8000].map (f32ToU8 0) =
      [100, 0, 0, 0, 0, 5, 255] := by decide +kernel

/-- T42. -/
theorem test_tspd :
    [0, 3, 4, -1].map (fun i => resOf (exec (.tspd i) framed)) =
      [some 0x4330E2D0, some 0x433F90A3, some 0x00000000, some 0x00000000] := by decide +kernel

/-- T43: two roundings, a subnormal result, an overflow, the sign of a zero. -/
theorem test_tire_speed :
    tireSpeedOf binary32 0 0x3E99999A 0x42C80000 = 0x42D80001 ∧ tireSpeedOf binary32 0 0x00000001 0x3F800000 = 4 ∧
    tireSpeedOf binary32 0 0x7149F2CA 0x7149F2CA = 0x7F800000 ∧ tireSpeedOf binary32 0 0 0xC0A00000 = 0 := by decide +kernel

/-- T46; T4: speed zero. -/
theorem test_tslip :
    [0, 2, 4].map (fun i => resOf (exec (.tslip i) framed)) = [some 0x3F7B9239, some 0x3F872B01, some 0x00000000] ∧
    resOf (exec (.tslip 0) zeroFramed) = some 0 := by decide +kernel

/-- T47: a subnormal speed, a negative speed, speed 1.0, an infinite speed; and a negative zero out of range. -/
theorem test_slip :
    slipOf binary32 0 0x4330E2D0 0x00000001 = 0x7F800000 ∧ slipOf binary32 0 0x4330E2D0 0xC2480000 = 0xBF7B9239 ∧
    slipOf binary32 0 0x4330E2D0 0x3F800000 = 0x42448A3D ∧ slipOf binary32 0 0x4330E2D0 0x7F800000 = 0 ∧
    slipOf binary32 0 0 0xC2480000 = 0x80000000 := by decide +kernel

/-- T50, P2: mask 0x0009. -/
theorem test_flag :
    [0, 1, 2, 4, 5, 13, -1].map (fun i => resOf (exec (.flag i) framed)) =
      [some 0, some 1, some 0, some 1, some 0, some 0, some 0] ∧ resOf (exec (.flag 0) zeroFramed) = some 1 := by decide +kernel

/-- T50: FLAGMAX 12, 13, 16 and 0. -/
theorem test_flag_query :
    flagQuery 0x1000 13 12 = false ∧ flagQuery 0x1000 13 13 = true ∧ flagQuery 0x8000 16 16 = true ∧
    flagQuery 0xFFFF 1 0 = false ∧ flagQuery 0x0000 0 0 = true := by decide +kernel

/-- P2: FIELD of a scalar and of an array element; a field beyond the frame is not admitted. -/
theorem test_field :
    partOf (·.answer) (perform (.field .fuelCapacity 0) framed) = some (some (.float 0x42C80000)) ∧
    partOf (·.answer) (perform (.field .tireRadius 3) framed) = some (some (.float 0x3EA8F5C3)) ∧
    partOf (·.answer) (perform (.field .gears 0) framed) = some (some (.int 0x23)) ∧
    partOf (·.answer) (perform (.field .tailB 0) framed) = none := by decide +kernel

/-- R6: the default parameters meet the constraints. -/
theorem params_valid : params.Valid := by
  refine ⟨by decide +kernel, fun v => ?_, by decide +kernel, rfl, by decide +kernel⟩
  cases v <;> decide

/-! ### Witnesses: states and operands that meet the hypotheses of the statements -/

theorem delivered_inv : delivered.Inv := bench_inv (by decide +kernel) (by decide +kernel) (by decide +kernel)
theorem corrupted_inv : corrupted.Inv := bench_inv (by decide +kernel) (by decide +kernel) (by decide +kernel)
theorem framed_inv : framed.Inv := bench_inv (by decide +kernel) (by decide +kernel) (by decide +kernel)

/-- A state with a buffer of three bytes and the frame of T30. -/
def loaded : State := bench [0x01] [0x47, 0x54, 0x37] frameA

theorem loaded_inv : loaded.Inv := bench_inv (by decide +kernel) (by decide +kernel) (by decide +kernel)

/-- A state whose buffer holds a plaintext of VariantA. -/
def plainA : State := (bench [] frameA frameA).setVariant (some .a)

theorem plainA_inv : plainA.Inv := by
  have h : (bench [] frameA frameA).Inv := bench_inv (by decide +kernel) (by decide +kernel) (by decide +kernel)
  exact ⟨⟨h.canonical.rx, h.canonical.kstr, h.canonical.buf, h.canonical.frame⟩, h.rx, h.kstr, h.buf, h.len, h.tag, h.frame, h.frameCap, h.flagMax⟩

theorem witness_DecodeOfEncodeIsTheCommand : (Instr.tspd (-128)).wf = true ∧ (Instr.flag 127).wf = true := by decide +kernel

theorem witness_EncodeOfDecodeIsTheWord : decodeWord 0x15FF = .ok (.flag (-1)) ∧ decodeWord 0x0400 = .ok .keyld := by
  decide +kernel

theorem witness_StepRunsTheDecodedCommand :
    (State.reset.withFetchWord 16 0x0200).pending = [.cmd 0x0200] ∧ decodeWord 0x0200 = .ok .vdet ∧
      State.reset.pending = [] := by decide +kernel

theorem witness_IllegalWordRaisesIllegalCommandOnly :
    ¬ ((0x0101 : Half) ∈ ([0x0100, 0x0200, 0x0300, 0x0400, 0x0500, 0x0600, 0x0700, 0x1000, 0x1100, 0x1200] : List Half) ∨
      (0x0101 : Half) &&& 0xFF00 ∈ ([0x1300, 0x1400, 0x1500] : List Half)) := by decide +kernel

theorem witness_DeliverStoresTheDatagram :
    (List.replicate 65535 (0 : Byte)).length ≤ 65535 ∧ 65535 < (List.replicate 65536 (0 : Byte)).length := by
  rw [List.length_replicate, List.length_replicate]
  omega

theorem witness_KeyStringIsStored :
    (List.replicate 255 (0 : Byte)).length ≤ 255 ∧ 255 < (List.replicate 256 (0 : Byte)).length := by
  rw [List.length_replicate, List.length_replicate]
  omega

theorem witness_HostRegisterWrites : (16 : BitVec 5).toNat ≤ 16 ∧ 16 < (17 : BitVec 5).toNat := by decide +kernel

/-- A configuration that lays every field out as two signed 16-bit elements at 0xA6, two bytes before the end of the
first wheel rate of the test frame. -/
def signedLayout : Config := { params with layout := fun _ => ⟨0xA6, .s16, 2⟩ }

/-- R168, sign extension: the element 0xC31B is negative, the element 0x8000 the most negative. -/
theorem test_field_signed :
    partOf (·.answer) (hostField signedLayout .lapCount 0 framed) = some (some (.int (-15589))) ∧
    partOf (·.answer) (hostField signedLayout .lapCount 1 framed) = some (some (.int (-32768))) ∧
    partOf (·.answer) (hostField signedLayout .lapCount 2 framed) = none := by decide +kernel

/-- Each clause: an element below the count and one at it, a place inside the frame and one beyond, no frame, the gear
byte, and the two variants without a tail. -/
theorem witness_FieldReadsComeFromTheFrame :
    framed.frame.wf ∧ framed.fValid = true ∧ framed.fVariant = some .a ∧ 1 < (signedLayout.layout .lapCount).count ∧
      (signedLayout.layout .lapCount).off + (signedLayout.layout .lapCount).count * fieldSize .s16 ≤ signedLayout.size .a ∧
      (∀ j, j < 2 → framed.frame.read (0xA6 + 1 * 2 + j) = ([0x00, 0x80] : List Byte)[j]?) ∧
      (signedLayout.layout .lapCount).count ≤ 2 ∧
      params.size .a < (params.layout .tailB).off + (params.layout .tailB).count * fieldSize (params.layout .tailB).type ∧
      State.reset.fValid = false ∧ framed.Inv ∧ framed.frame.read 0x90 = some 0x23 ∧
      (framed.setFrame framed.frame .b).fVariant = some .b :=
  ⟨framed_inv.canonical.frame, rfl, rfl, by decide +kernel, by decide +kernel, by decide +kernel, by decide +kernel,
    by decide +kernel, rfl, framed_inv, by decide +kernel, rfl⟩

/-- The codes at both ends of their tables. -/
theorem witness_StatusWordFields :
    State.reset.err = .none ∧ (State.reset.setErr .lengthOverflow).err = .lengthOverflow ∧
      State.reset.variant = none ∧ (State.reset.setVariant (some .c)).variant = some .c ∧ State.reset.fVariant = none ∧
      framed.fVariant = some .a ∧ (framed.setFrame framed.frame .c).fVariant = some .c := by
  refine ⟨rfl, rfl, rfl, rfl, rfl, rfl, rfl⟩

theorem witness_RegisterReadsAnswerTheRegister :
    State.reset.expVar = .a ∧ (State.reset.setExpVar .b).expVar = .b ∧ (State.reset.setExpVar .c).expVar = .c :=
  ⟨rfl, rfl, rfl⟩

/-- Each clause: inside and beyond BUF, inside and beyond FRAME, and no frame. -/
theorem witness_AdmittedReadsReturnTheBytes :
    loaded.Inv ∧ 0 + 3 ≤ loaded.len.toNat ∧ loaded.len.toNat < 1 + 3 ∧ loaded.fVariant = some .a ∧
      0 + 296 ≤ params.size .a ∧ params.size .a < 1 + 296 ∧ State.reset.fValid = false :=
  ⟨loaded_inv, by decide +kernel, by decide +kernel, by decide +kernel, by decide +kernel, by decide +kernel, by decide +kernel⟩

theorem witness_StepKeepsTheInvariant : ∃ t, (loaded.withFetchWord 16 0x0600).Inv ∧
    step (loaded.withFetchWord 16 0x0600) = .next t := by
  obtain ⟨t, h, _⟩ := next_of_partOf
    (show partOf (·.err) (step (loaded.withFetchWord 16 0x0600)) = some .none by decide +kernel)
  have i := loaded_inv
  exact ⟨t, ⟨⟨i.canonical.rx, i.canonical.kstr, i.canonical.buf, i.canonical.frame⟩, i.rx, i.kstr, i.buf, i.len, i.tag, i.frame, i.frameCap, i.flagMax⟩, h⟩

theorem witness_StepKeepsMemoryCanonical : ∃ t, (loaded.withFetchWord 16 0x0500).Canonical ∧
    step (loaded.withFetchWord 16 0x0500) = .next t := by
  obtain ⟨t, h, _⟩ := next_of_partOf
    (show partOf (·.err) (step (loaded.withFetchWord 16 0x0500)) = some .none by decide +kernel)
  have i := loaded_inv.canonical
  exact ⟨t, ⟨i.rx, i.kstr, i.buf, i.frame⟩, h⟩

theorem witness_StepNeverFaults : framed.Inv := framed_inv

theorem witness_EveryCommandAnswersANextState : delivered.Inv := delivered_inv

theorem witness_CommandsLeaveTheHostsRegisters : ∃ t, exec .crypt loaded = .next t :=
  (next_of_partOf (show partOf (·.err) (exec .crypt loaded) = some .none by decide +kernel)).imp fun _ h => h.1

theorem witness_RaisingCommandLeavesTheFrame : ∃ t, exec .vdet framed = .next t ∧ t.err ≠ .none := by
  obtain ⟨t, h, e⟩ := next_of_partOf (show partOf (·.err) (exec .vdet framed) = some .unrecognizedVariant by decide +kernel)
  exact ⟨t, h, by rw [e]; decide⟩

theorem witness_CommandsRaiseOnlyTheErrorsOfTheTable : ∃ t, exec .gearc State.reset = .next t ∧ t.err ≠ .none := by
  obtain ⟨t, h, e⟩ := next_of_partOf (show partOf (·.err) (exec .gearc State.reset) = some .noFrame by decide +kernel)
  exact ⟨t, h, by rw [e]; decide⟩

theorem witness_OnlyResetDiscardsAFrame :
    (∃ t, step (framed.setPending [.reset]) = .next t ∧ t.fValid = false) ∧ framed.fValid = true ∧
      ∃ t, step (framed.setPending [.cmd 0x0200]) = .next t ∧ t.fValid = true :=
  ⟨next_of_partOf (show partOf (·.fValid) (step (framed.setPending [.reset])) = some false by decide +kernel), by decide +kernel,
    next_of_partOf (show partOf (·.fValid) (step (framed.setPending [.cmd 0x0200])) = some true by decide +kernel)⟩

theorem witness_AccessorsWriteResAndErrOnly : isAccessor (.flag 1) = true ∧ ∃ t, exec (.flag 1) framed = .next t :=
  ⟨rfl, (next_of_partOf (show partOf (·.err) (exec (.flag 1) framed) = some .none by decide +kernel)).imp fun _ h => h.1⟩

theorem witness_ReadAfterWrite : Memory.wf [(0, 1), (2, 3)] := by decide +kernel

/-- Each clause: the three sizes, and a size between. -/
theorem witness_VdetClassifiesByExactLength :
    [296, 316, 344, 300].map (fun n => partOf (·.variant) (exec .vdet (State.reset.setRx (BitVec.ofNat 16 n) []))) =
      [some (some .a), some (some .b), some (some .c), some none] := by decide +kernel

/-- Each clause: no variant, 67 bytes, 68 bytes. -/
theorem witness_IvderDerivesSeedAndIvOrRaises :
    State.reset.variant = none ∧
      (((bench (seedDatagram.take 67) [] []).setVariant (some .b)).variant = some .b ∧
        ((bench (seedDatagram.take 67) [] []).setVariant (some .b)).rxLen.toNat < 68) ∧
      ((bench seedDatagram [] []).setVariant (some .b)).rx.wf ∧
      ((bench seedDatagram [] []).setVariant (some .b)).variant = some .b ∧
      68 ≤ ((bench seedDatagram [] []).setVariant (some .b)).rxLen.toNat ∧
      holdsWord ((bench seedDatagram [] []).setVariant (some .b)).rx 0x40 0x12345678 := by
  refine ⟨rfl, ⟨rfl, by decide +kernel⟩, Memory.ofBytes_wf _, rfl, by decide +kernel, ?_⟩
  unfold holdsWord
  decide +kernel

theorem witness_DifferentVariantsGiveDifferentIvs : params.Valid ∧ Variant.a ≠ Variant.c := ⟨params_valid, by decide +kernel⟩

theorem witness_KeyldFormatsTheKeyString : framed.Inv := framed_inv

/-- Each clause, on both sides of BUF_CAP. -/
theorem witness_LdbufCopiesTheDatagramOrRaises :
    4096 < (State.reset.setRx 4097 []).rxLen.toNat ∧ delivered.Inv ∧ delivered.rxLen.toNat ≤ 4096 ∧
      (State.reset.setRx 4096 []).rxLen.toNat ≤ 4096 :=
  ⟨by decide +kernel, delivered_inv, by decide +kernel, by decide +kernel⟩

theorem witness_CryptXorsTheKeystream : loaded.Inv ∧ 2 < loaded.len.toNat ∧ loaded.len.toNat ≤ 3 :=
  ⟨loaded_inv, by decide +kernel, by decide +kernel⟩

theorem witness_CryptIsAnInvolution : ∃ t, loaded.Inv ∧ exec .crypt loaded = .next t :=
  (next_of_partOf (show partOf (·.err) (exec .crypt loaded) = some .none by decide +kernel)).imp fun _ h => ⟨loaded_inv, h.1⟩

theorem witness_DemarshAcceptsTheFrame :
    plainA.Inv ∧ plainA.variant = some .a ∧ plainA.len.toNat = params.size .a ∧ holdsWord plainA.buf 0 0x47375330 := by
  refine ⟨plainA_inv, rfl, by decide +kernel, ?_⟩
  unfold holdsWord
  decide +kernel

theorem witness_DemarshRaises :
    State.reset.variant = none ∧ (plainA.setVariant (some .c)).len.toNat ≠ params.size .c ∧
      holdsWord (bench [] (0x31 :: frameA.drop 1) []).buf 0 0x47375331 ∧
      (bench [] (0x31 :: frameA.drop 1) []).len.toNat = params.size .a := by
  refine ⟨rfl, by decide +kernel, ?_, by decide +kernel⟩
  unfold holdsWord
  decide +kernel

theorem witness_DecodeAcceptsAFrame :
    delivered.Inv ∧ delivered.rxLen.toNat = params.size .a ∧ holdsWord delivered.rx 0x40 0x12345678 ∧
      ∀ p, p < 4 →
        (delivered.rx.read p).map (· ^^^ keystreamByte params (keyProto params) (deriveIv params .a 0x12345678) p) =
          some ((0x47375330 : Word).extractLsb' (8 * p) 8) := by
  refine ⟨delivered_inv, by decide +kernel, ?_, by decide +kernel⟩
  unfold holdsWord
  decide +kernel

theorem witness_DecodeRejectsAnUnknownLength :
    (bench [0x00] [] []).rxLen.toNat ≠ 296 ∧ (bench [0x00] [] []).rxLen.toNat ≠ 316 ∧
      (bench [0x00] [] []).rxLen.toNat ≠ 344 := by decide +kernel

theorem witness_DecodeRejectsABadSignature :
    corrupted.Inv ∧ corrupted.rxLen.toNat = params.size .a ∧ holdsWord corrupted.rx 0x40 0x12345678 ∧
      (corrupted.rx.read 0).map (· ^^^ keystreamByte params (keyProto params) (deriveIv params .a 0x12345678) 0) ≠
        some ((0x47375330 : Word).extractLsb' (8 * 0) 8) := by
  refine ⟨corrupted_inv, by decide +kernel, ?_, by decide +kernel⟩
  unfold holdsWord
  decide +kernel

theorem witness_DecodeEqualsItsStages :
    (State.reset.setKstr 38 (Memory.ofBytes keyStringBytes)).kstr.wf ∧
      (State.reset.setKstr 38 (Memory.ofBytes keyStringBytes)).ksLen = 38 ∧
      ∀ i, i < 38 → (State.reset.setKstr 38 (Memory.ofBytes keyStringBytes)).kstr.read i = params.keyString[i]? :=
  ⟨Memory.ofBytes_wf _, rfl, fun i _ => Memory.read_ofBytes _ i⟩

theorem witness_DecodeDependsOnTheDatagramAlone : ∃ t, delivered.rxLen = (delivered.setSeed 1).rxLen ∧
    delivered.rx = (delivered.setSeed 1).rx ∧ exec .decode delivered = .next t ∧ t.err = .none ∧ t.variant ≠ none := by
  obtain ⟨t, h, e⟩ := next_of_partOf
    (show partOf (fun t => (t.err, t.variant)) (exec .decode delivered) = some (.none, some .a) by decide +kernel)
  obtain ⟨e1, e2⟩ := Prod.mk.inj e
  exact ⟨t, rfl, rfl, h, e1, by rw [e2]; decide⟩

theorem witness_AccessorsRaiseNoFrame : isAccessor (.tslip 0) = true ∧ State.reset.fValid = false := by decide +kernel

theorem witness_GearAccessorsReadTheNibbles :
    framed.frame.wf ∧ framed.fValid = true ∧ framed.frame.read 0x90 = some 0x23 :=
  ⟨framed_inv.canonical.frame, rfl, by decide +kernel⟩

theorem witness_PtrainClassifiesTheFuelCapacity :
    framed.frame.wf ∧ framed.fValid = true ∧ holdsWord framed.frame 0x48 0x42C80000 := by
  refine ⟨framed_inv.canonical.frame, rfl, ?_⟩
  unfold holdsWord
  decide +kernel

/-- Wheel 3, the last; and indices on both sides of the range. -/
theorem witness_TspdGivesTheTireSpeed :
    framed.frame.wf ∧ framed.fValid = true ∧ (0 : Int) ≤ 3 ∧ (3 : Int) ≤ 3 ∧
      holdsWord framed.frame (0xB4 + 4 * (3 : Int).toNat) 0x3EA8F5C3 ∧
      holdsWord framed.frame (0xA4 + 4 * (3 : Int).toNat) 0xC3214000 ∧ ((-1 : Int) < 0 ∨ 3 < (-1 : Int)) ∧
      ((4 : Int) < 0 ∨ 3 < (4 : Int)) := by
  refine ⟨framed_inv.canonical.frame, rfl, by decide +kernel, by decide +kernel, ?_, ?_, by decide +kernel, by decide +kernel⟩ <;>
  · unfold holdsWord
    decide +kernel

theorem witness_TspdIsNeverNegative : ∃ t, exec (.tspd 0) framed = .next t ∧ t.err = .none :=
  next_of_partOf (show partOf (·.err) (exec (.tspd 0) framed) = some .none by decide +kernel)

/-- A speed that is no zero, and a speed that is one. -/
theorem witness_TslipGivesTheSlipRatio :
    framed.frame.wf ∧ framed.fValid = true ∧ holdsWord framed.frame 0x4C 0x42480000 ∧ zeroFramed.frame.wf ∧
      zeroFramed.fValid = true ∧ holdsWord zeroFramed.frame 0x4C 0x00000000 ∧
      holdsWord framed.frame (0xB4 + 4 * (0 : Int).toNat) 0x3EA24DD3 ∧
      holdsWord framed.frame (0xA4 + 4 * (0 : Int).toNat) 0xC31B0000 := by
  refine ⟨framed_inv.canonical.frame, rfl, ?_, Memory.ofBytes_wf _, rfl, ?_, ?_, ?_⟩ <;>
  · unfold holdsWord
    decide +kernel

theorem witness_TslipOutOfRangeIsAZero :
    framed.frame.wf ∧ framed.fValid = true ∧ holdsWord framed.frame 0x4C 0x42480000 ∧ ((4 : Int) < 0 ∨ 3 < (4 : Int)) ∧
      (0x42480000 : Word) ≠ 0x00000000 ∧ (0x42480000 : Word) ≠ 0x80000000 ∧ f32IsNaN 0x42480000 = false := by
  refine ⟨framed_inv.canonical.frame, rfl, ?_, by decide +kernel, by decide +kernel, by decide +kernel, by decide +kernel⟩
  unfold holdsWord
  decide +kernel

theorem witness_FlagQueriesTheMask :
    framed.frame.wf ∧ framed.fValid = true ∧ holdsHalf framed.frame 0x8E 0x0009 := by
  refine ⟨framed_inv.canonical.frame, rfl, ?_⟩
  unfold holdsHalf
  decide +kernel

/-- The value of a pattern from its three parts. -/
theorem value_of_parts {a : Word} {m : Nat} {e : Int} (h1 : f32Sign a = false) (h2 : f32Sig a = m)
    (h3 : f32Scale a = e) : f32Value a = m * (2 : ℚ) ^ e := by
  simp [f32Value, h1, h2, h3]

theorem value_one : f32Value 0x3F800000 = 1 := by
  rw [value_of_parts (m := 8388608) (e := -23) (by decide +kernel) (by decide +kernel) (by decide +kernel)]
  norm_num

theorem value_huge : f32Value 0x7F000000 = 2 ^ 127 := by
  rw [value_of_parts (m := 8388608) (e := 104) (by decide +kernel) (by decide +kernel) (by decide +kernel)]
  norm_num

theorem value_zero : f32Value 0x00000000 = 0 := by
  rw [value_of_parts (m := 0) (e := -149) (by decide +kernel) (by decide +kernel) (by decide +kernel)]
  norm_num

/-- 1.0 times 1.0 is in range; 2^127 times 2^127 overflows. -/
theorem witness_MultiplicationRoundsToNearestEven :
    f32Finite 0x3F800000 ∧ f32Finite 0x7F000000 ∧ |f32Value 0x3F800000 * f32Value 0x3F800000| < f32Overflow ∧
      f32Overflow ≤ |f32Value 0x7F000000 * f32Value 0x7F000000| := by
  refine ⟨by unfold f32Finite; decide, by unfold f32Finite; decide, ?_, ?_⟩
  · rw [value_one, f32Overflow]; norm_num
  · rw [value_huge, f32Overflow]; norm_num

/-- 1.0 over 1.0 is in range; 2^127 over the least subnormal overflows. -/
theorem witness_DivisionRoundsToNearestEven :
    f32Finite 0x3F800000 ∧ f32Finite 0x7F000000 ∧ f32Finite 0x00000001 ∧ f32Value 0x00000001 ≠ 0 ∧
      |f32Value 0x3F800000 / f32Value 0x3F800000| < f32Overflow ∧
      f32Overflow ≤ |f32Value 0x7F000000 / f32Value 0x00000001| := by
  have h : f32Value 0x00000001 = (1 : ℚ) / 2 ^ 149 := by
    rw [value_of_parts (m := 1) (e := -149) (by decide +kernel) (by decide +kernel) (by decide +kernel)]
    norm_num
  refine ⟨by unfold f32Finite; decide, by unfold f32Finite; decide, by unfold f32Finite; decide, ?_, ?_, ?_⟩
  · rw [h]; norm_num
  · rw [value_one, f32Overflow]; norm_num
  · rw [value_huge, h, f32Overflow]; norm_num

/-- A NaN, an infinity, a zero and a one. -/
theorem witness_SpecialOperandsOfMultiplicationAndDivision :
    f32IsNaN 0x7FC00000 = true ∧ f32IsInf 0x7F800000 = true ∧ f32IsNaN 0x7F800000 = false ∧ f32Finite 0x00000000 ∧
      f32Value 0x00000000 = 0 ∧ f32Finite 0x3F800000 ∧ f32Value 0x3F800000 ≠ 0 := by
  refine ⟨by decide +kernel, by decide +kernel, by decide +kernel, by unfold f32Finite; decide, value_zero, by unfold f32Finite; decide, ?_⟩
  rw [value_one]
  norm_num

/-- 1.0 and 255.5 lie inside `(-1.0, 256.0)`. -/
theorem witness_TruncationToAByte :
    f32Finite 0x437F8000 ∧ -1 < f32Value 0x437F8000 ∧ f32Value 0x437F8000 < 256 ∧ f32Value 0x3F800000 < 256 := by
  have h : f32Value 0x437F8000 = 511 / 2 := by
    rw [value_of_parts (m := 16744448) (e := -16) (by decide +kernel) (by decide +kernel) (by decide +kernel)]
    norm_num
  refine ⟨by unfold f32Finite; decide, ?_, ?_, ?_⟩
  · rw [h]; norm_num
  · rw [h]; norm_num
  · rw [value_one]; norm_num

end Sys2Proof.Tests
end

section
/-! PROOF. The state after reset (10_state.md R39). -/

namespace Sys2Proof.Machine

/-- An empty space holds no value at any index (R39, R60). -/
@[simp] theorem Memory.read_nil (a : Nat) : Memory.read [] a = none := rfl

/-- No source byte at all: every byte is the fill byte 0. -/
theorem fixedBytes_nil (n : Nat) : fixedBytes n [] = Vector.replicate n 0 := by
  ext i hi
  simp [fixedBytes]

/-- `K_PROTO` is the key string cut to its first 32 bytes (R132): the string has more than 32. -/
theorem keyProto_params_toList : (keyProto params).toList = keyStringBytes.take 32 := by
  decide

/-- Settles O14: the row of KEY is the cut key string, the row of IV the fill of `fixedBytes`, the no-value rows are
empty spaces; every other row is the field's own value. -/
theorem resetState : Obligations.ResetState := by
  have hiv : State.reset.iv.toList = List.replicate 8 0 :=
    (congrArg Vector.toList (fixedBytes_nil 8)).trans Vector.toList_replicate
  have hkey : State.reset.key.toList = keyStringBytes.take 32 := keyProto_params_toList
  refine ⟨rfl, rfl, hiv, rfl, hkey, rfl, rfl, rfl, rfl, rfl, rfl, rfl, rfl, fun a => ?_⟩
  exact ⟨Memory.read_nil a, Memory.read_nil a, Memory.read_nil a, Memory.read_nil a⟩

end Sys2Proof.Machine
end

section
/-! PROOF. The host's register writes (20_memory.md R68, R69). -/

namespace Sys2Proof.Machine

/-- The codes R69 stores are the variants' own codes. -/
@[simp] theorem variantOfCode_variantCode (x : Variant) : variantOfCode (variantCode x) = some x := by
  cases x <;> rfl

/-- R68. -/
theorem perform_writeIv (v : Vector Byte 8) (s : State) : perform (.writeIv v) s = .next (s.setIv v) := rfl

/-- R69, EXPVAR: a value that names a variant stores it. -/
theorem perform_writeExpVar_of_some {v : BitVec 2} {x : Variant} (h : variantOfCode v = some x) (s : State) :
    perform (.writeExpVar v) s = .next (s.setExpVar x) := by
  simp [perform, hostWriteExpVar, h]

/-- R69, EXPVAR: a value that names no variant is ignored. -/
theorem perform_writeExpVar_of_none {v : BitVec 2} (h : variantOfCode v = none) (s : State) :
    perform (.writeExpVar v) s = .next s := by
  simp [perform, hostWriteExpVar, h]

/-- R69, FLAGMAX: a legal value is stored. -/
theorem perform_writeFlagMax_of_le {v : BitVec 5} (h : v.toNat ≤ 16) (s : State) :
    perform (.writeFlagMax v) s = .next (s.setFlagMax v) :=
  if_pos h

/-- R69, FLAGMAX: an illegal value is ignored. -/
theorem perform_writeFlagMax_of_lt {v : BitVec 5} (h : 16 < v.toNat) (s : State) :
    perform (.writeFlagMax v) s = .next s :=
  if_neg (Nat.not_le.2 h)

/-- Settles O9: the codes 1, 2 and 3 are those of the three variants and 0 is none's; FLAGMAX splits at 16. -/
theorem hostRegisterWrites : Obligations.HostRegisterWrites := by
  intro s
  refine ⟨fun v => ?iv, ?ignored, ?a, ?b, ?c, fun v hv => ?stored, fun v hv => ?tooLarge⟩
  case iv => exact perform_writeIv v s
  case ignored => exact perform_writeExpVar_of_none rfl s
  case a => exact perform_writeExpVar_of_some (variantOfCode_variantCode .a) s
  case b => exact perform_writeExpVar_of_some (variantOfCode_variantCode .b) s
  case c => exact perform_writeExpVar_of_some (variantOfCode_variantCode .c) s
  case stored => exact perform_writeFlagMax_of_le hv s
  case tooLarge => exact perform_writeFlagMax_of_lt hv s

end Sys2Proof.Machine
end

section
/-! PROOF. Illegal command words (30_encoding.md R94, R95; 60_exceptions.md R226). -/

namespace Sys2Proof

/-- A word is its opcode followed by its operand field (R90). -/
@[simp] theorem makeWord_opField_operandField (w : Half) : makeWord (opField w) (operandField w) = w :=
  (BitVec.extractLsb'_append_extractLsb'_eq_extractLsb' rfl).trans BitVec.extractLsb'_eq_self

/-- The index operand keeps all eight bits of its field (R93, R97). -/
@[simp] theorem idxField_idxOperand (k : Byte) : idxField (idxOperand k) = k :=
  BitVec.ofInt_toInt

/-- A row of format N accepts the zero operand field alone, so it gives back the word it accepted (R91). -/
theorem encode_of_formatN {i j : Instr} {op k : Byte} (hj : encode j = makeWord op 0x00)
    (h : formatN j op k = .ok i) : encode i = makeWord op k := by
  unfold formatN at h
  split at h
  case isTrue hk =>
    cases h
    exact hk ▸ hj
  case isFalse => cases h

/-- The command read from an opcode and an operand field encodes to them: the ten rows of format N, then the three
of format I (R94). -/
theorem encode_of_decodeFields {op k : Byte} {i : Instr} (h : decodeFields op k = .ok i) :
    encode i = makeWord op k := by
  unfold decodeFields at h
  iterate 10
    obtain ⟨rfl, h⟩ | ⟨-, h⟩ := ite_eq_iff.1 h
    · exact encode_of_formatN rfl h
  iterate 3
    obtain ⟨rfl, h⟩ | ⟨-, h⟩ := ite_eq_iff.1 h
    · cases h
      exact congrArg (makeWord _) (idxField_idxOperand k)
  cases h

/-- An accepted word is the word of the command it gives. -/
theorem encode_of_decodeWord {w : Half} {i : Instr} (h : decodeWord w = .ok i) : encode i = w :=
  (encode_of_decodeFields h).trans (makeWord_opField_operandField w)

/-- A row of the opcode map matches `w`: the whole word in format N, the opcode byte in format I (R94). -/
def MatchesRow (w : Half) : Prop :=
  w ∈ [0x0100, 0x0200, 0x0300, 0x0400, 0x0500, 0x0600, 0x0700, 0x1000, 0x1100, 0x1200] ∨
    w &&& 0xFF00 ∈ [0x1300, 0x1400, 0x1500]

/-- A word whose opcode byte is a format I row's matches that row, whatever its operand field. -/
theorem matchesRow_of_opcode {w r : Half} (hr : r ∈ [0x1300, 0x1400, 0x1500]) (h : w &&& 0xFF00 = r) :
    MatchesRow w :=
  .inr (h.symm ▸ hr)

/-- The word of every command matches a row, that of an index out of range too. -/
theorem matchesRow_encode (i : Instr) : MatchesRow (encode i) := by
  cases i
  case tspd idx => exact matchesRow_of_opcode (r := 0x1300) (by decide) (Laws.EncodeRow.tspd idx)
  case tslip idx => exact matchesRow_of_opcode (r := 0x1400) (by decide) (Laws.EncodeRow.tslip idx)
  case flag idx => exact matchesRow_of_opcode (r := 0x1500) (by decide) (Laws.EncodeRow.flag idx)
  all_goals exact .inl (by decide)

/-- R95: a word that matches no row is rejected. -/
theorem decodeWord_eq_error_of_not_matchesRow {w : Half} (h : ¬ MatchesRow w) : ∃ e, decodeWord w = .error e := by
  cases hw : decodeWord w with
  | error e => exact ⟨e, rfl⟩
  | ok i => exact absurd (encode_of_decodeWord hw ▸ matchesRow_encode i) h

end Sys2Proof

namespace Sys2Proof.Machine

/-- R226: HCMD of a rejected word raises IllegalCommand on the state it found. -/
theorem perform_cmd_of_error {w : Half} {e : DecodeError} (h : decodeWord w = .error e) (s : State) :
    perform (.cmd w) s = .next (s.setErr .illegalCommand) := by
  simp [perform, hostCmd, h, illegalBody]

/-- Settles O6: an accepted word would be the word of a command, and each of those matches a row; so the word is
rejected, and the raise writes ERR alone. -/
theorem illegalWordRaisesIllegalCommandOnly : Obligations.IllegalWordRaisesIllegalCommandOnly := by
  intro s w hw
  obtain ⟨e, he⟩ := decodeWord_eq_error_of_not_matchesRow hw
  exact perform_cmd_of_error he s

end Sys2Proof.Machine
end

section
/-! PROOF. The version detector (40_version_detect.md R110, R111). -/

namespace Sys2Proof.Machine

/-- R110: a datagram of a variant's size is of that variant; no earlier test of `classify` accepts the size. -/
theorem classify_params_size (v : Variant) : classify params (params.size v) = some v := by
  cases v <;> rfl

/-- R110: a length that is no variant's size is of no variant. -/
theorem classify_eq_none {c : Config} {n : Nat} (h : ∀ v, n ≠ c.size v) : classify c n = none := by
  simp [classify, h]

/-- R111: a classified length writes VARIANT and raises nothing. -/
theorem exec_vdet_of_classify_some {s : State} {v : Variant} (h : classify params s.rxLen.toNat = some v) :
    exec .vdet s = .next ((s.setVariant (some v)).setErr .none) := by
  have hbody : vdetBody params s = .done (s.setVariant (some v)) := vdetBody_done_iff.2 ⟨v, h, rfl⟩
  rw [exec_eq_finish, bodyOf, hbody, Body.finish_done]

/-- R111: an unclassified length clears VARIANT and raises UnrecognizedVariant. -/
theorem exec_vdet_of_classify_none {s : State} (h : classify params s.rxLen.toNat = none) :
    exec .vdet s = .next ((s.setVariant none).setErr .unrecognizedVariant) := by
  have hbody : vdetBody params s = .raised .unrecognizedVariant (s.setVariant none) :=
    vdetBody_raised_iff.2 ⟨h, rfl, rfl⟩
  rw [exec_eq_finish, bodyOf, hbody, Body.finish_raised]

/-- R110 and R111: a length that is a variant's size writes that variant. -/
theorem exec_vdet_of_rxLen_eq_size {s : State} {v : Variant} (h : s.rxLen.toNat = params.size v) :
    exec .vdet s = .next ((s.setVariant (some v)).setErr .none) :=
  exec_vdet_of_classify_some (h ▸ classify_params_size v)

/-- Settles O30: 296, 316 and 344 are the sizes of A, B and C, and a length that is none of them is classified as no
variant. -/
theorem vdetClassifiesByExactLength : Obligations.VdetClassifiesByExactLength := by
  refine ⟨rfl, fun s => ⟨fun h => ?a, fun h => ?b, fun h => ?c, fun ha hb hc => ?unrecognized⟩⟩
  case a => exact exec_vdet_of_rxLen_eq_size (v := .a) h
  case b => exact exec_vdet_of_rxLen_eq_size (v := .b) h
  case c => exact exec_vdet_of_rxLen_eq_size (v := .c) h
  case unrecognized =>
    have hsize : ∀ v, s.rxLen.toNat ≠ params.size v
      | .a => ha
      | .b => hb
      | .c => hc
    exact exec_vdet_of_classify_none (classify_eq_none hsize)

end Sys2Proof.Machine
end

section
/-! PROOF. Words as four bytes, low to high (00_scope.md R9), and reading one from a space. -/

namespace Sys2Proof.Machine

@[simp] theorem length_bytesLE (n v : Nat) : (bytesLE n v).length = n := by
  induction n generalizing v with
  | zero => rfl
  | succ n ih => simp [bytesLE, ih]

@[simp] theorem length_bytesLE32 (v : Word) : (bytesLE32 v).length = 4 := length_bytesLE 4 _

/-- Assembling the bytes of a number gives it back, cut to as many bytes (R9). -/
theorem leValue_bytesLE (n v : Nat) : leValue (bytesLE n v) = v % 256 ^ n := by
  induction n generalizing v with
  | zero => simp [bytesLE, leValue, Nat.mod_one]
  | succ n ih => simp [bytesLE, leValue, ih, Nat.pow_succ', Nat.mod_mul]

@[simp] theorem le32_bytesLE32 (v : Word) : le32 (bytesLE32 v) = v := by
  have hlt : v.toNat < 256 ^ 4 := v.isLt
  rw [le32, bytesLE32, leValue_bytesLE, Nat.mod_eq_of_lt hlt, BitVec.ofNat_toNat, BitVec.setWidth_eq]

theorem bytesLE32_injective : Function.Injective bytesLE32 := Function.LeftInverse.injective le32_bytesLE32

/-- The bytes of a word are its bits 7:0, 15:8, 23:16 and 31:24 (R9). -/
theorem bytesLE32_eq_extracts (v : Word) :
    bytesLE32 v = [v.extractLsb' 0 8, v.extractLsb' 8 8, v.extractLsb' 16 8, v.extractLsb' 24 8] := by
  simp [bytesLE32, bytesLE, BitVec.extractLsb', Nat.shiftRight_eq_div_pow, Nat.div_div_eq_div_mul]

theorem getElem?_bytesLE32 (v : Word) {i : Nat} (hi : i < 4) :
    (bytesLE32 v)[i]? = some (v.extractLsb' (8 * i) 8) := by
  rw [bytesLE32_eq_extracts]
  interval_cases i <;> rfl

/-- A space that holds a word is read as the word's bytes. -/
theorem readSpace_of_holdsWord {sp : Space} {m : Memory} (hm : m.wf) {o : Nat} {w : Word} (h : holdsWord m o w) :
    readSpace sp m o 4 = .ok (bytesLE32 w) :=
  (readSpace_ok_iff hm).2 ⟨length_bytesLE32 w, fun i hi => (h i hi).trans (getElem?_bytesLE32 w hi).symm⟩

/-- A sequence of the length asked is neither cut nor filled. -/
theorem fixedBytes_toList {n : Nat} {bs : List Byte} (h : bs.length = n) : (fixedBytes n bs).toList = bs := by
  subst h
  refine List.ext_getElem (by simp) fun i _ _ => ?_
  simp [fixedBytes]

end Sys2Proof.Machine
end

section
/-! PROOF. The IV deriver (41_iv_derive.md R120 to R122). -/

namespace Sys2Proof.Machine

/-- R120: the bytes of the mixed seed, then those of the raw seed. -/
theorem deriveIv_toList (c : Config) (v : Variant) (seed : Word) :
    (deriveIv c v seed).toList = bytesLE32 (seed ^^^ c.mix v) ++ bytesLE32 seed :=
  fixedBytes_toList (by simp)

/-- R6: the mixing constants are pairwise distinct. -/
theorem mix_injective_of_valid {c : Config} (hc : c.Valid) : Function.Injective c.mix := by
  obtain ⟨-, -, ⟨hab, hac, hbc⟩, -⟩ := hc
  exact fun
    | .a, .a, _ | .b, .b, _ | .c, .c, _ => rfl
    | .a, .b, h => absurd h hab
    | .b, .a, h => absurd h.symm hab
    | .a, .c, h => absurd h hac
    | .c, .a, h => absurd h.symm hac
    | .b, .c, h => absurd h hbc
    | .c, .b, h => absurd h.symm hbc

/-- R122: for one seed the variant is read back from the IV wherever MIX tells the variants apart. -/
theorem deriveIv_injective {c : Config} (hmix : Function.Injective c.mix) (seed : Word) :
    Function.Injective fun v => deriveIv c v seed := by
  intro v w h
  have hbytes : bytesLE32 (seed ^^^ c.mix v) ++ bytesLE32 seed = bytesLE32 (seed ^^^ c.mix w) ++ bytesLE32 seed := by
    simpa only [deriveIv_toList] using congrArg Vector.toList h
  have hmixed : seed ^^^ c.mix v = seed ^^^ c.mix w := bytesLE32_injective (List.append_cancel_right hbytes)
  exact hmix ((BitVec.xor_right_inj seed).1 hmixed)

/-- R122: the last four bytes are those of the raw seed, whatever the variant. -/
theorem deriveIv_toList_drop (c : Config) (v : Variant) (seed : Word) :
    (deriveIv c v seed).toList.drop 4 = bytesLE32 seed := by
  rw [deriveIv_toList]
  exact List.drop_left' (length_bytesLE32 _)

/-- Settles O32: the first four bytes give back the mixed seed, and xor with the seed gives back MIX. -/
theorem differentVariantsGiveDifferentIvs : Obligations.DifferentVariantsGiveDifferentIvs := by
  intro c v w seed hc
  refine ⟨(deriveIv_injective (mix_injective_of_valid hc) seed).ne, ?_⟩
  rw [deriveIv_toList_drop, deriveIv_toList_drop]

/-- R121: IVDER without a variant. -/
theorem exec_ivder_of_variant_none {s : State} (h : s.variant = none) :
    exec .ivder s = .next (s.setErr .unrecognizedVariant) := by
  have hbody : ivderBody params s = .raised .unrecognizedVariant s := ivderBody_raised_iff.2 ⟨rfl, .inl ⟨h, rfl⟩⟩
  rw [exec_eq_finish, bodyOf, hbody, Body.finish_raised]

/-- R121: IVDER of a datagram that ends before the seed does. -/
theorem exec_ivder_of_rxLen_lt {s : State} {v : Variant} (hv : s.variant = some v)
    (h : s.rxLen.toNat < params.seedOff + 4) : exec .ivder s = .next (s.setErr .truncatedSeed) := by
  have hbody : ivderBody params s = .raised .truncatedSeed s :=
    ivderBody_raised_iff.2 ⟨rfl, .inr ⟨v, hv, h, rfl⟩⟩
  rw [exec_eq_finish, bodyOf, hbody, Body.finish_raised]

/-- R121: IVDER writes SEED and IV when the datagram holds the seed. -/
theorem exec_ivder_of_holdsWord {s : State} {v : Variant} {seed : Word} (hm : s.rx.wf) (hv : s.variant = some v)
    (hlen : params.seedOff + 4 ≤ s.rxLen.toNat) (h : holdsWord s.rx params.seedOff seed) :
    exec .ivder s = .next (((s.setSeed seed).setIv (deriveIv params v seed)).setErr .none) := by
  have hseed : seedBytes params s = .ok (bytesLE32 seed) := readSpace_of_holdsWord hm h
  have hbody : ivderBody params s = .done ((s.setSeed seed).setIv (deriveIv params v seed)) :=
    ivderBody_done_iff.2 ⟨v, _, hv, hlen, hseed, by rw [le32_bytesLE32]⟩
  rw [exec_eq_finish, bodyOf, hbody, Body.finish_done]

/-- Settles O31: the seed lies at 0x40, so a datagram holds it from 68 bytes on; the bytes read are those of the
word RX holds. -/
theorem ivderDerivesSeedAndIvOrRaises : Obligations.IvderDerivesSeedAndIvOrRaises := by
  refine ⟨rfl, fun s => ⟨fun hv => ?noVariant, fun v hv hlen => ?truncated, fun v seed hm hv hlen h => ?derived⟩⟩
  case noVariant => exact exec_ivder_of_variant_none hv
  case truncated => exact exec_ivder_of_rxLen_lt hv hlen
  case derived =>
    refine ⟨_, exec_ivder_of_holdsWord hm hv hlen h, rfl, ?_⟩
    exact (deriveIv_toList params v seed).trans (by simp only [bytesLE32_eq_extracts, List.cons_append, List.nil_append])

end Sys2Proof.Machine
end

section
/-! PROOF. The bytes the commands read from a state that meets the invariant (10_state.md R22, R23, R28). -/

namespace Sys2Proof.Machine

/-- A space that holds exactly its first `m` bytes is read from index 0 up to any `n ≤ m`. -/
theorem readSpace_zero_of_isSome_iff (sp : Space) {mem : Memory} (hm : mem.wf) {m n : Nat}
    (h : ∀ a, (mem.read a).isSome ↔ a < m) (hn : n ≤ m) :
    ∃ bs, readSpace sp mem 0 n = .ok bs ∧ bs.length = n ∧ ∀ i, i < n → mem.read i = bs[i]? := by
  have hsome : ∀ i, i < n → (mem.read (0 + i)).isSome := fun i hi => (h _).2 (by omega)
  simpa only [Nat.zero_add] using readSpace_of_isSome sp hm hsome

/-- R133: the part of the key string that KEYLD reads holds a value. -/
theorem keyStringRead_of_inv {s : State} (hs : s.Inv) :
    ∃ d, keyStringRead s = .ok d ∧ d.length = min s.ksLen.toNat 32 ∧
      ∀ i, i < min s.ksLen.toNat 32 → s.kstr.read i = d[i]? :=
  have hcap : 32 ≤ params.kstrCap := by decide
  readSpace_zero_of_isSome_iff .kstr hs.canonical.kstr hs.kstr (by omega)

/-- R134: a datagram that fits RX holds a value at every index. -/
theorem datagram_of_inv {s : State} (hs : s.Inv) (hlen : s.rxLen.toNat ≤ params.rxCap) :
    ∃ d, datagram s = .ok d ∧ d.length = s.rxLen.toNat ∧ ∀ i, i < s.rxLen.toNat → s.rx.read i = d[i]? :=
  readSpace_zero_of_isSome_iff .rx hs.canonical.rx hs.rx (by omega)

/-- R146: the working buffer holds a value at every index. -/
theorem bufferBytes_of_inv {s : State} (hs : s.Inv) :
    ∃ d, bufferBytes s = .ok d ∧ d.length = s.len.toNat ∧ ∀ i, i < s.len.toNat → s.buf.read i = d[i]? :=
  readSpace_zero_of_isSome_iff .buf hs.canonical.buf hs.buf le_rfl

end Sys2Proof.Machine
end

section
/-! PROOF. Key formatting and KEYLD (42_cipher.md R131, R133). -/

namespace Sys2Proof.Machine

@[simp] theorem getElem_fixedBytes {n : Nat} (bs : List Byte) {i : Nat} (hi : i < n) :
    (fixedBytes n bs)[i] = bs[i]?.getD 0x00 :=
  Vector.getElem_ofFn hi

/-- R131: where the sequence has a byte, the key has it. -/
theorem getElem_formatKey_of_lt {x : List Byte} {i : Nat} (hi : i < 32) (h : i < x.length) :
    (formatKey x)[i] = x[i] := by
  simp [formatKey, h]

/-- R131: past the end of the sequence the key is filled with 0x00. -/
theorem getElem_formatKey_of_le {x : List Byte} {i : Nat} (hi : i < 32) (h : x.length ≤ i) :
    (formatKey x)[i] = 0x00 := by
  simp [formatKey, h]

/-- Settles O34: an index below 32 lies inside the sequence or past its end. -/
theorem formatKeyTruncatesOrFills : Obligations.FormatKeyTruncatesOrFills := by
  intro x i hi
  split
  case isTrue h => exact getElem_formatKey_of_lt hi h
  case isFalse h => exact getElem_formatKey_of_le hi (Nat.not_lt.1 h)

/-- R133: KEYLD writes the formatted key string. -/
theorem exec_keyld_of_keyStringRead {s : State} {d : List Byte} (h : keyStringRead s = .ok d) :
    exec .keyld s = .next ((s.setKey (formatKey d)).setErr .none) := by
  have hbody : keyldBody s = .done (s.setKey (formatKey d)) := keyldBody_done_iff.2 ⟨d, h, rfl⟩
  rw [exec_eq_finish, bodyOf, hbody, Body.finish_done]

/-- Writing KEY and ERR changes nothing else. For any key: with `formatKey d` in its place, `rfl` would compute it. -/
theorem setErr_setKey_frame (s : State) (k : Vector Byte 32) (e : ErrCode) :
    (s.setKey k).setErr e = { s with key := ((s.setKey k).setErr e).key, err := e } := rfl

/-- Settles O33: KEYLD reads min(KSLEN, 32) bytes, so below 32 an index lies inside what was read exactly when it is
below KSLEN. -/
theorem keyldFormatsTheKeyString : Obligations.KeyldFormatsTheKeyString := by
  refine ⟨rfl, fun s hs => ?_⟩
  obtain ⟨d, hread, hlen, hbytes⟩ := keyStringRead_of_inv hs
  refine ⟨_, exec_keyld_of_keyStringRead hread, setErr_setKey_frame s _ _, fun i hi => ?_⟩
  rw [State.setErr_key, State.setKey_key]
  split
  case isTrue h =>
    have hd : i < d.length := by omega
    rw [getElem_formatKey_of_lt hi hd, hbytes i (by omega), List.getElem?_eq_getElem hd]
  case isFalse h => rw [getElem_formatKey_of_le hi (by omega)]

end Sys2Proof.Machine
end

section
/-! PROOF. LDBUF (42_cipher.md R134). -/

namespace Sys2Proof.Machine

/-- R134: a datagram longer than BUF raises LengthOverflow and is not copied. -/
theorem exec_ldbuf_of_bufCap_lt {s : State} (h : params.bufCap < s.rxLen.toNat) :
    exec .ldbuf s = .next (s.setErr .lengthOverflow) := by
  have hbody : ldbufBody params s = .raised .lengthOverflow s := ldbufBody_raised_iff.2 ⟨h, rfl, rfl⟩
  rw [exec_eq_finish, bodyOf, hbody, Body.finish_raised]

/-- R134: LDBUF makes BUF hold exactly the datagram. -/
theorem exec_ldbuf_of_datagram {s : State} {d : List Byte} (hlen : s.rxLen.toNat ≤ params.bufCap)
    (h : datagram s = .ok d) : exec .ldbuf s = .next ((s.setBuf s.rxLen (Memory.ofBytes d)).setErr .none) := by
  have hbody : ldbufBody params s = .done (s.setBuf s.rxLen (Memory.ofBytes d)) :=
    ldbufBody_done_iff.2 ⟨hlen, d, h, rfl⟩
  rw [exec_eq_finish, bodyOf, hbody, Body.finish_done]

/-- Settles O35: BUF_CAP and RX_CAP are both 4096, so a datagram that fits BUF is readable; above its last byte the
filled buffer holds no value. -/
theorem ldbufCopiesTheDatagramOrRaises : Obligations.LdbufCopiesTheDatagramOrRaises := by
  refine ⟨rfl, fun s => ⟨fun h => ?overflow, fun hs h => ?copied⟩⟩
  case overflow => exact exec_ldbuf_of_bufCap_lt h
  case copied =>
    obtain ⟨d, hread, hlen, hbytes⟩ := datagram_of_inv hs h
    refine ⟨_, exec_ldbuf_of_datagram h hread, rfl, fun a => ?_⟩
    rw [State.setErr_buf, State.setBuf_buf, Memory.read_ofBytes]
    split
    case isTrue ha => exact (hbytes a ha).symm
    case isFalse ha => exact List.getElem?_eq_none (by omega)

end Sys2Proof.Machine
end

section
/-! PROOF. The keystream by position, the XOR datapath and CRYPT (42_cipher.md R130, R135, R146). -/

namespace Sys2Proof.Machine

/-- Blocks of 64 bytes laid end to end: position `p` is byte `p mod 64` of block `p div 64`. -/
theorem getElem?_flatMap_blocks (f : Nat → Vector Byte 64) {n p : Nat} (hp : p < 64 * n) :
    ((List.range n).flatMap fun j => (f j).toList)[p]? = some ((f (p / 64))[p % 64]'(Nat.mod_lt p (by decide))) := by
  induction n with
  | zero => omega
  | succ n ih =>
    have hlen := length_flatMap_blocks f n
    rw [List.range_succ, List.flatMap_append, List.flatMap_singleton]
    rcases Nat.lt_or_ge p (64 * n) with hlt | hge
    · rw [List.getElem?_append_left (hlen ▸ hlt), ih hlt]
    · obtain rfl : p / 64 = n := by omega
      have hmod : p - 64 * (p / 64) = p % 64 := by omega
      rw [List.getElem?_append_right (hlen ▸ hge), hlen, hmod]
      simp

/-- R135, R146: the keystream made block by block is the keystream by position. -/
theorem getElem?_keystream (c : Config) (k : Vector Byte 32) (n : Vector Byte 8) {len p : Nat} (hp : p < len) :
    (keystream c k n len)[p]? = some (keystreamByte c k n p) := by
  rw [keystream, List.getElem?_take_of_lt hp,
    getElem?_flatMap_blocks (fun j => c.ksblock k n (BitVec.ofNat 64 j)) (by omega), keystreamByte]

/-- R146: byte `p` of the output is byte `p` of the input xor byte `p` of the keystream. -/
theorem getElem?_cryptBytes (c : Config) (k : Vector Byte 32) (n : Vector Byte 8) (x : List Byte) (p : Nat) :
    (cryptBytes c k n x)[p]? = x[p]?.map (· ^^^ keystreamByte c k n p) := by
  rcases Nat.lt_or_ge p x.length with hp | hp
  · rw [cryptBytes, List.getElem?_zipWith, getElem?_keystream c k n hp, List.getElem?_eq_getElem hp, Option.map_some]
  · simp [hp]

/-- R146: CRYPT writes the ciphered bytes over the working buffer. -/
theorem exec_crypt_of_bufferBytes {s : State} {d : List Byte} (h : bufferBytes s = .ok d) :
    exec .crypt s =
      .next ((s.setBuf s.len (s.buf.write 0 (cryptBytes params s.key s.iv d))).setErr .none) := by
  have hbody : cryptBody params s = .done (s.setBuf s.len (s.buf.write 0 (cryptBytes params s.key s.iv d))) :=
    cryptBody_done_iff.2 ⟨d, h, rfl⟩
  rw [exec_eq_finish, bodyOf, hbody, Body.finish_done]

/-- A byte after a write from index 0: below the length the byte written, from there on the byte that was there. -/
theorem Memory.read_write_zero (m : Memory) (bs : List Byte) (p : Nat) :
    (m.write 0 bs).read p = if p < bs.length then bs[p]? else m.read p := by
  simp [Memory.read_write]

/-- Settles O36: the bytes written are LEN many, so those below LEN are ciphered and those from LEN on stay. -/
theorem cryptXorsTheKeystream : Obligations.CryptXorsTheKeystream := by
  refine ⟨rfl, fun s hs => ?_⟩
  obtain ⟨d, hread, hlen, hbytes⟩ := bufferBytes_of_inv hs
  refine ⟨_, exec_crypt_of_bufferBytes hread, rfl, fun p hp => ?ciphered, fun p hp => ?kept⟩
  all_goals rw [State.setErr_buf, State.setBuf_buf, Memory.read_write_zero, length_cryptBytes, hlen]
  case ciphered => rw [if_pos hp, getElem?_cryptBytes, hbytes p hp]
  case kept => rw [if_neg (Nat.not_lt.2 hp)]

end Sys2Proof.Machine
end

section
/-! PROOF. DECODE as its stages (45_decode.md R210, R212). The stages issued one by one are one chained body; the
chained body and DECODE's own differ in stage 3 alone, where KEYLD reads KSTR and DECODE uses K_PROTO. -/

namespace Sys2Proof.Machine

@[simp] theorem Body.andThen_done_right (b : Body) : b.andThen .done = b := by
  cases b <;> rfl

theorem Body.andThen_assoc (b : Body) (k k' : State → Body) :
    (b.andThen k).andThen k' = b.andThen fun s => (k s).andThen k' := by
  cases b <;> rfl

/-- What follows a stage matters only from the states that stage can end in. -/
theorem Body.andThen_congr {b : Body} {k k' : State → Body} (h : ∀ t, b = .done t → k t = k' t) :
    b.andThen k = b.andThen k' := by
  cases b with
  | done t => exact h t rfl
  | raised e t => rfl
  | stuck f => rfl

/-- Two commands that read the same end alike if they do from each value read. -/
theorem Body.finish_reading_congr {α : Type} {r : Except Fault α} {k k' : α → Body}
    (h : ∀ v, (k v).finish = (k' v).finish) : (Body.reading r k).finish = (Body.reading r k').finish := by
  cases r with
  | ok v => exact h v
  | error f => rfl

/-! ### Each stage ends the same from any ERR -/

variable {c : Config}

theorem finish_vdetBody_setErr (s : State) (e : ErrCode) :
    (vdetBody c (s.setErr e)).finish = (vdetBody c s).finish := by
  unfold vdetBody
  rw [State.setErr_rxLen]
  cases classify c s.rxLen.toNat <;> rfl

theorem finish_ivderBody_setErr (s : State) (e : ErrCode) :
    (ivderBody c (s.setErr e)).finish = (ivderBody c s).finish := by
  unfold ivderBody
  rw [State.setErr_variant, State.setErr_rxLen]
  cases s.variant with
  | none => rfl
  | some v =>
    simp only
    split
    case isTrue => rfl
    case isFalse => exact Body.finish_reading_congr fun _ => rfl

theorem finish_keyldBody_setErr (s : State) (e : ErrCode) :
    (keyldBody (s.setErr e)).finish = (keyldBody s).finish :=
  Body.finish_reading_congr fun _ => rfl

theorem finish_ldbufBody_setErr (s : State) (e : ErrCode) :
    (ldbufBody c (s.setErr e)).finish = (ldbufBody c s).finish := by
  unfold ldbufBody
  rw [State.setErr_rxLen]
  split
  case isTrue => rfl
  case isFalse => exact Body.finish_reading_congr fun _ => rfl

theorem finish_cryptBody_setErr (s : State) (e : ErrCode) :
    (cryptBody c (s.setErr e)).finish = (cryptBody c s).finish :=
  Body.finish_reading_congr fun _ => rfl

theorem finish_acceptFrame_setErr (v : Variant) (s : State) (e : ErrCode) :
    (acceptFrame v (s.setErr e)).finish = (acceptFrame v s).finish :=
  Body.finish_reading_congr fun _ => rfl

theorem finish_demarshBody_setErr (s : State) (e : ErrCode) :
    (demarshBody c (s.setErr e)).finish = (demarshBody c s).finish := by
  unfold demarshBody
  rw [State.setErr_variant, State.setErr_len]
  cases s.variant with
  | none => rfl
  | some v =>
    simp only
    split
    case isTrue => rfl
    case isFalse =>
      split
      case isTrue =>
        refine Body.finish_reading_congr fun m => ?_
        split
        case isTrue => rfl
        case isFalse => exact finish_acceptFrame_setErr v s e
      case isFalse => exact finish_acceptFrame_setErr v s e

/-! ### Commands issued one by one are one chained body -/

/-- The bodies of the commands in order, each run only if the one before raised nothing. -/
def chainedBody : List Instr → State → Body
  | [], s => .done s
  | i :: is, s => (bodyOf i s).andThen (chainedBody is)

/-- A command a chain may hold: it ends the same from any ERR, and what it raises is an error. -/
structure Chainable (i : Instr) : Prop where
  exec_setErr : ∀ s e, exec i (s.setErr e) = exec i s
  raised_ne_none : ∀ s e t, bodyOf i s = .raised e t → e ≠ .none

theorem chainable_vdet : Chainable .vdet where
  exec_setErr := finish_vdetBody_setErr
  raised_ne_none s e t h := by
    obtain ⟨-, rfl, -⟩ := vdetBody_raised_iff.1 h
    decide

theorem chainable_ivder : Chainable .ivder where
  exec_setErr := finish_ivderBody_setErr
  raised_ne_none s e t h := by
    obtain ⟨-, ⟨-, rfl⟩ | ⟨-, -, -, rfl⟩⟩ := ivderBody_raised_iff.1 h <;> decide

theorem chainable_keyld : Chainable .keyld where
  exec_setErr := finish_keyldBody_setErr
  raised_ne_none _ _ _ h := absurd h keyldBody_ne_raised

theorem chainable_ldbuf : Chainable .ldbuf where
  exec_setErr := finish_ldbufBody_setErr
  raised_ne_none s e t h := by
    obtain ⟨-, rfl, -⟩ := ldbufBody_raised_iff.1 h
    decide

theorem chainable_crypt : Chainable .crypt where
  exec_setErr := finish_cryptBody_setErr
  raised_ne_none _ _ _ h := absurd h cryptBody_ne_raised

theorem chainable_demarsh : Chainable .demarsh where
  exec_setErr := finish_demarshBody_setErr
  raised_ne_none s e t h := by
    obtain ⟨-, ⟨-, rfl⟩ | ⟨-, -, -, rfl⟩ | ⟨-, -, -, -, -, -, -, rfl⟩⟩ :=
      demarshBody_raised_iff.1 h <;> decide

/-- R98: from ERR = 0, commands issued one by one end as their chained body: the `ERR <- 0` between two of them is
overwritten by the next, and a raise ends both. -/
theorem issueWhileOk_setErr_none {is : List Instr} (his : ∀ i ∈ is, Chainable i) (s : State) :
    issueWhileOk is (s.setErr .none) = (chainedBody is s).finish := by
  induction is generalizing s with
  | nil => rfl
  | cons i is ih =>
    obtain ⟨hi, his⟩ := List.forall_mem_cons.1 his
    rw [issueWhileOk, hi.exec_setErr, exec_eq_finish, chainedBody]
    cases hbody : bodyOf i s with
    | done t => simpa using ih his t
    | raised e t => simp [hi.raised_ne_none s e t hbody]
    | stuck f => rfl

/-- The first command overwrites whatever ERR it starts from, so the chain may start from any. -/
theorem issueWhileOk_cons_eq_finish {i : Instr} {is : List Instr} (hi : Chainable i) (his : ∀ j ∈ is, Chainable j)
    (s : State) : issueWhileOk (i :: is) s = (chainedBody (i :: is) s).finish := by
  rw [← issueWhileOk_setErr_none (List.forall_mem_cons.2 ⟨hi, his⟩), issueWhileOk, issueWhileOk, hi.exec_setErr]

/-! ### Stage 3: KEYLD of KEY_STRING writes K_PROTO -/

/-- KSTR holds KEY_STRING, whole (R212). -/
structure HoldsKeyString (s : State) : Prop where
  wf : s.kstr.wf
  ksLen : s.ksLen = 38
  read : ∀ i, i < 38 → s.kstr.read i = params.keyString[i]?

/-- R131: formatting cuts a sequence to 32 bytes, so cutting it before changes nothing. -/
theorem formatKey_take (x : List Byte) : formatKey (x.take 32) = formatKey x := by
  ext i hi
  simp [formatKey, List.getElem?_take_of_lt hi]

theorem keyStringRead_of_holdsKeyString {s : State} (h : HoldsKeyString s) :
    keyStringRead s = .ok (params.keyString.take 32) := by
  rw [keyStringRead, h.ksLen]
  refine (readSpace_ok_iff h.wf).2 ⟨rfl, fun i hi => ?_⟩
  replace hi : i < 32 := hi
  rw [Nat.zero_add, h.read i (by omega), List.getElem?_take_of_lt hi]

/-- R212: KEYLD of KEY_STRING is stage 3 of DECODE. -/
theorem keyldBody_of_holdsKeyString {s : State} (h : HoldsKeyString s) : keyldBody s = protocolKeyBody params s := by
  rw [keyldBody, keyStringRead_of_holdsKeyString h, Body.reading_ok, formatKey_take]
  rfl

theorem HoldsKeyString.of_vdetBody_done {s t : State} (h : HoldsKeyString s) (ht : vdetBody params s = .done t) :
    HoldsKeyString t := by
  obtain ⟨v, -, rfl⟩ := vdetBody_done_iff.1 ht
  exact ⟨h.wf, h.ksLen, h.read⟩

theorem HoldsKeyString.of_ivderBody_done {s t : State} (h : HoldsKeyString s) (ht : ivderBody params s = .done t) :
    HoldsKeyString t := by
  obtain ⟨v, d, -, -, -, rfl⟩ := ivderBody_done_iff.1 ht
  exact ⟨h.wf, h.ksLen, h.read⟩

/-- R210, R212: DECODE's body is the chain of its stages, with KEYLD as stage 3: VDET and IVDER leave KSTR alone. -/
theorem decodeBody_eq_chainedBody {s : State} (h : HoldsKeyString s) :
    decodeBody params s = chainedBody [.vdet, .ivder, .keyld, .ldbuf, .crypt, .demarsh] s := by
  simp only [decodeBody, chainedBody, bodyOf, Body.andThen_assoc, Body.andThen_done_right]
  refine Body.andThen_congr fun s1 h1 => Body.andThen_congr fun s2 h2 => ?_
  rw [keyldBody_of_holdsKeyString ((h.of_vdetBody_done h1).of_ivderBody_done h2)]

/-- Settles O47: the stages issued one by one are their chained body, which is DECODE's where KSTR holds
KEY_STRING. -/
theorem decodeEqualsItsStages : Obligations.DecodeEqualsItsStages := by
  intro s hwf hlen hread
  have hstages : ∀ i ∈ [Instr.ivder, .keyld, .ldbuf, .crypt, .demarsh], Chainable i := by
    simp [chainable_ivder, chainable_keyld, chainable_ldbuf, chainable_crypt, chainable_demarsh]
  rw [issueWhileOk_cons_eq_finish chainable_vdet hstages, exec_eq_finish, bodyOf,
    decodeBody_eq_chainedBody ⟨hwf, hlen, hread⟩]

end Sys2Proof.Machine
end

section
/-! PROOF. Accessors without a frame (44_accessors.md R182; 60_exceptions.md R225). -/

namespace Sys2Proof.Machine

/-- R182: the prologue that tests FVALID opens every accessor. -/
theorem bodyOf_eq_accessorBody {i : Instr} (hi : isAccessor i = true) (s : State) :
    ∃ k, bodyOf i s = accessorBody s k := by
  cases i
  case gearc | gears | ptrain | tspd | tslip | flag => exact ⟨_, rfl⟩
  all_goals cases hi

/-- Settles O49: the prologue of the accessors raises NoFrame on the state it found, and the raise writes ERR alone. -/
theorem accessorsRaiseNoFrame : Obligations.AccessorsRaiseNoFrame := by
  intro i s hi hs
  obtain ⟨k, hk⟩ := bodyOf_eq_accessorBody hi s
  rw [exec_eq_finish, hk, accessorBody_noFrame hs, Body.finish_raised]
  rfl

end Sys2Proof.Machine
end

section
/-! PROOF. No word written to CMD reads ERR (70_reset_and_hazards.md R263; 10_state.md R32). -/

namespace Sys2Proof.Machine

/-- A stage that ends the same from any ERR, and what it raises is an error. -/
structure IgnoresErr (k : State → Body) : Prop where
  finish_setErr : ∀ s e, (k (s.setErr e)).finish = (k s).finish
  raised_ne_none : ∀ s e t, k s = .raised e t → e ≠ .none

theorem Chainable.ignoresErr {i : Instr} (hi : Chainable i) : IgnoresErr (bodyOf i) where
  finish_setErr s e := by simpa only [exec_eq_finish] using hi.exec_setErr s e
  raised_ne_none := hi.raised_ne_none

theorem ignoresErr_protocolKeyBody (c : Config) : IgnoresErr (protocolKeyBody c) where
  finish_setErr _ _ := rfl
  raised_ne_none _ _ _ h := by cases h

/-- R98: what a stage does after a command has ended: it runs if ERR is 0, and not otherwise. -/
def continueWhileOk (k : State → Body) : HostOutcome → HostOutcome
  | .next t => if t.err = .none then (k t).finish else .next t
  | .fault f => .fault f
  | .refused r => .refused r

/-- How two stages end follows from how the first one ends: its ERR tells whether it raised, and the second does not
see the difference between the ERR it left and the `ERR <- 0` at its end. -/
theorem Body.finish_andThen {b : Body} {k : State → Body} (hb : ∀ e t, b = .raised e t → e ≠ .none)
    (hk : IgnoresErr k) : (b.andThen k).finish = continueWhileOk k b.finish := by
  cases b with
  | done t => simp [continueWhileOk, hk.finish_setErr]
  | raised e t => simp [continueWhileOk, hb e t rfl]
  | stuck f => rfl

theorem IgnoresErr.andThen {k k' : State → Body} (hk : IgnoresErr k) (hk' : IgnoresErr k') :
    IgnoresErr fun s => (k s).andThen k' where
  finish_setErr s e := by
    rw [Body.finish_andThen (hk.raised_ne_none _) hk', Body.finish_andThen (hk.raised_ne_none _) hk',
      hk.finish_setErr]
  raised_ne_none s e t h := by
    obtain h | ⟨s', -, h⟩ := Body.andThen_eq_raised_iff.1 h
    · exact hk.raised_ne_none s e t h
    · exact hk'.raised_ne_none s' e t h

/-- R210: DECODE does not read ERR, since none of its six stages does. -/
theorem ignoresErr_decodeBody : IgnoresErr (decodeBody params) :=
  ((((chainable_vdet.ignoresErr.andThen chainable_ivder.ignoresErr).andThen
    (ignoresErr_protocolKeyBody params)).andThen chainable_ldbuf.ignoresErr).andThen
    chainable_crypt.ignoresErr).andThen chainable_demarsh.ignoresErr

/-- R182: an accessor ends the same from any ERR when its writes are the same but for ERR. -/
theorem finish_accessorBody_setErr {α : Type} {r : Except Fault α} {k k' : α → State} (s : State) (e : ErrCode)
    (hk : ∀ x, (k x).setErr .none = (k' x).setErr .none) :
    (accessorBody (s.setErr e) (.reading r fun x => .done (k x))).finish =
      (accessorBody s (.reading r fun x => .done (k' x))).finish := by
  cases h : s.fValid with
  | false => rw [accessorBody_noFrame h, accessorBody_noFrame (s := s.setErr e) h]; rfl
  | true =>
    rw [accessorBody_frame h, accessorBody_frame (s := s.setErr e) h]
    exact Body.finish_reading_congr fun x => congrArg Host.Outcome.next (hk x)

/-- R32: no command reads ERR. -/
theorem exec_setErr (i : Instr) (s : State) (e : ErrCode) : exec i (s.setErr e) = exec i s := by
  cases i
  case decode => exact ignoresErr_decodeBody.finish_setErr s e
  case vdet => exact chainable_vdet.exec_setErr s e
  case ivder => exact chainable_ivder.exec_setErr s e
  case keyld => exact chainable_keyld.exec_setErr s e
  case ldbuf => exact chainable_ldbuf.exec_setErr s e
  case crypt => exact chainable_crypt.exec_setErr s e
  case demarsh => exact chainable_demarsh.exec_setErr s e
  case gearc | gears | ptrain | tspd | tslip | flag => exact finish_accessorBody_setErr s e fun _ => rfl

/-- R70: HCMD of an accepted word executes its command. -/
theorem perform_cmd_of_ok {w : Half} {i : Instr} (h : decodeWord w = .ok i) (s : State) :
    perform (.cmd w) s = exec i s := by
  simp [perform, hostCmd, h]

/-- Settles O24: a rejected word raises IllegalCommand over any ERR, and an accepted one runs a command, which does
not read ERR. -/
theorem everyCommandOverwritesErr : Obligations.EveryCommandOverwritesErr := by
  intro w s e
  cases h : decodeWord w with
  | error d =>
    rw [perform_cmd_of_error h, perform_cmd_of_error h]
    rfl
  | ok i =>
    rw [perform_cmd_of_ok h, perform_cmd_of_ok h]
    exact exec_setErr i s e

end Sys2Proof.Machine
end

section
/-! PROOF. The round trip of decoder and encoder, and the words the decoder accepts (30_encoding.md R90 to R97). -/

namespace Sys2Proof

@[simp] theorem opField_makeWord (op k : Byte) : opField (makeWord op k) = op :=
  BitVec.extractLsb'_append_eq_left

@[simp] theorem operandField_makeWord (op k : Byte) : operandField (makeWord op k) = k :=
  BitVec.extractLsb'_append_eq_right

/-- The index operand is a byte in two's complement, so an index in range fits its field (R93, R97). -/
theorem idxOperand_idxField {idx : Int} (h : idxInRange idx = true) : idxOperand (idxField idx) = idx := by
  obtain ⟨hlo, hhi⟩ := of_decide_eq_true h
  exact BitVec.toInt_ofInt_eq_self (by decide) hlo (by omega)

/-- Every operand field is an index in range (R93). -/
theorem idxInRange_idxOperand (k : Byte) : idxInRange (idxOperand k) = true := by
  have hlo := BitVec.le_toInt k
  have hhi := BitVec.toInt_lt (x := k)
  exact decide_eq_true ⟨hlo, Int.le_of_lt_add_one hhi⟩

/-- Settles O1: a format N word is decoded as it stands; a format I word gives back its opcode and its operand field,
and the field the index. -/
theorem decodeOfEncodeIsTheCommand : Obligations.DecodeOfEncodeIsTheCommand := by
  intro i hi
  cases i
  case tspd idx | tslip idx | flag idx =>
    rw [decodeWord, encode, opField_makeWord, operandField_makeWord]
    simp [decodeFields, idxOperand_idxField hi]
  all_goals rfl

theorem wf_of_formatN {i j : Instr} {op k : Byte} (hj : j.wf = true) (h : formatN j op k = .ok i) : i.wf = true := by
  obtain ⟨-, h⟩ | ⟨-, h⟩ := ite_eq_iff.1 h <;> cases h
  exact hj

/-- The rows of format N have no index, and those of format I give one in range (R91, R93). -/
theorem wf_of_decodeFields {op k : Byte} {i : Instr} (h : decodeFields op k = .ok i) : i.wf = true := by
  unfold decodeFields at h
  iterate 10
    obtain ⟨-, h⟩ | ⟨-, h⟩ := ite_eq_iff.1 h
    · exact wf_of_formatN rfl h
  iterate 3
    obtain ⟨-, h⟩ | ⟨-, h⟩ := ite_eq_iff.1 h
    · cases h
      exact idxInRange_idxOperand k
  cases h

/-- Settles O2: the row that accepts a word says that its command is well formed and that the word is its word. -/
theorem encodeOfDecodeIsTheWord : Obligations.EncodeOfDecodeIsTheWord :=
  fun _ _ h => ⟨wf_of_decodeFields h, encode_of_decodeWord h⟩

/-- The mask of a format I row keeps the opcode byte (R94). -/
theorem opField_and_opcodeMask (w : Half) : opField (w &&& 0xFF00) = opField w := by
  have hmask : opField 0xFF00 = BitVec.allOnes 8 := rfl
  rw [opField, BitVec.extractLsb'_and, ← opField, ← opField, hmask, BitVec.and_allOnes]

theorem decodeFields_formatI {op : Byte} (h : op ∈ [0x13, 0x14, 0x15]) (k : Byte) :
    ∃ i, decodeFields op k = .ok i := by
  simp only [List.mem_cons, List.not_mem_nil, or_false] at h
  obtain rfl | rfl | rfl := h <;> exact ⟨_, rfl⟩

/-- A word that matches a row of the opcode map is accepted (R94). -/
theorem decodeWord_eq_ok_of_matchesRow {w : Half} (h : MatchesRow w) : ∃ i, decodeWord w = .ok i := by
  obtain h | h := h
  case inl =>
    simp only [List.mem_cons, List.not_mem_nil, or_false] at h
    obtain rfl | rfl | rfl | rfl | rfl | rfl | rfl | rfl | rfl | rfl := h <;> exact ⟨_, rfl⟩
  case inr =>
    refine decodeFields_formatI ?_ _
    rw [← opField_and_opcodeMask]
    exact List.mem_map_of_mem (f := opField) h

/-- Settles O3: an accepted word is the word of a command, which matches a row; and every row accepts its words. -/
theorem legalWordsAreTheRowsOfTheOpcodeMap : Obligations.LegalWordsAreTheRowsOfTheOpcodeMap :=
  fun _ => ⟨fun ⟨i, h⟩ => encode_of_decodeWord h ▸ matchesRow_encode i, decodeWord_eq_ok_of_matchesRow⟩

/-- Settles O4: six closed words, decoded. -/
theorem sampleWordsDecode : Obligations.SampleWordsDecode := by
  unfold Obligations.SampleWordsDecode
  decide

end Sys2Proof
end

section
/-! PROOF. What a command can write, said once: a property of states that every single write of the commands keeps is
kept by every command. -/

namespace Sys2Proof.Machine

/-- Wherever the body of a command ends, done or raised, `P` holds. -/
def Body.EndsIn (P : State → Prop) : Body → Prop
  | .done s => P s
  | .raised _ s => P s
  | .stuck _ => True

section
variable {P : State → Prop} {s t : State} {b : Body}

theorem Body.EndsIn.andThen {k : State → Body} (hb : b.EndsIn P) (hk : ∀ s, P s → (k s).EndsIn P) :
    (b.andThen k).EndsIn P := by
  cases b with
  | done s => exact hk s hb
  | raised e s => exact hb
  | stuck f => trivial

theorem Body.EndsIn.reading {α : Type} {r : Except Fault α} {k : α → Body}
    (hk : ∀ x, r = .ok x → (k x).EndsIn P) : (Body.reading r k).EndsIn P := by
  cases r with
  | ok x => exact hk x rfl
  | error f => trivial

theorem Body.EndsIn.of_finish (h : b.EndsIn P) (herr : ∀ s e, P s → P (s.setErr e)) (ht : b.finish = .next t) : P t := by
  obtain ⟨s, rfl, rfl⟩ | ⟨e, s, rfl, rfl⟩ := Body.finish_eq_next_iff.1 ht
  · exact herr s _ h
  · exact herr s e h

/-- `P` is kept by the writes of the accessors (R180). -/
structure AccessorWritesKeep (P : State → Prop) : Prop where
  err : ∀ s e, P s → P (s.setErr e)
  res : ∀ s v, P s → P (s.setRes v)
  draw : ∀ s k, P s → P (s.advanceDraw k)

/-- `P` is kept by each single write of a command (10_state.md section 7), BUF and FRAME with what is known of the bytes
written. -/
structure CommandWritesKeep (P : State → Prop) : Prop extends AccessorWritesKeep P where
  variant : ∀ s v, P s → P (s.setVariant v)
  seed : ∀ s v, P s → P (s.setSeed v)
  iv : ∀ s v, P s → P (s.setIv v)
  key : ∀ s v, P s → P (s.setKey v)
  load : ∀ s d, P s → s.rxLen.toNat ≤ params.bufCap → datagram s = .ok d → P (s.setBuf s.rxLen (Memory.ofBytes d))
  overwrite : ∀ s d bs, P s → bufferBytes s = .ok d → bs.length = d.length → P (s.setBuf s.len (s.buf.write 0 bs))
  frame : ∀ s v d, P s → s.len.toNat = params.size v → bufferBytes s = .ok d → P (s.setFrame (s.frame.write 0 d) v)

theorem accessorBody_endsIn {α : Type} {r : Except Fault α} {k : α → State} (hs : P s) (hk : ∀ x, P (k x)) :
    (accessorBody s (.reading r fun x => .done (k x))).EndsIn P := by
  cases h : s.fValid with
  | false => exact (accessorBody_noFrame h _).symm ▸ hs
  | true => exact (accessorBody_frame h _).symm ▸ Body.EndsIn.reading fun x _ => hk x

theorem bodyOf_accessor_endsIn (hP : AccessorWritesKeep P) {i : Instr} (hi : isAccessor i = true) (hs : P s) :
    (bodyOf i s).EndsIn P := by
  cases i
  case gearc | gears | flag => exact accessorBody_endsIn hs fun x => hP.res _ _ hs
  case ptrain | tspd | tslip => exact accessorBody_endsIn hs fun x => hP.draw _ _ (hP.res _ _ hs)
  all_goals cases hi

section
variable (hP : CommandWritesKeep P)
include hP

theorem vdetBody_endsIn (hs : P s) : (vdetBody params s).EndsIn P := by
  unfold vdetBody
  split <;> exact hP.variant s _ hs

theorem ivderBody_endsIn (hs : P s) : (ivderBody params s).EndsIn P := by
  unfold ivderBody
  split
  · exact hs
  · split
    · exact hs
    · exact Body.EndsIn.reading fun d _ => hP.iv _ _ (hP.seed _ _ hs)

theorem keyldBody_endsIn (hs : P s) : (keyldBody s).EndsIn P :=
  Body.EndsIn.reading fun _ _ => hP.key _ _ hs

theorem protocolKeyBody_endsIn (hs : P s) : (protocolKeyBody params s).EndsIn P := hP.key s _ hs

theorem ldbufBody_endsIn (hs : P s) : (ldbufBody params s).EndsIn P := by
  unfold ldbufBody
  split
  case isTrue => exact hs
  case isFalse h => exact Body.EndsIn.reading fun d hd => hP.load s d hs (Nat.not_lt.1 h) hd

theorem cryptBody_endsIn (hs : P s) : (cryptBody params s).EndsIn P :=
  Body.EndsIn.reading fun d hd => hP.overwrite s d _ hs hd (length_cryptBytes _ _ _ d)

theorem demarshBody_endsIn (hs : P s) : (demarshBody params s).EndsIn P := by
  cases h : demarshBody params s with
  | done t =>
    obtain ⟨v, d, -, hlen, -, hd, rfl⟩ := demarshBody_done_iff.1 h
    exact hP.frame s v d hs hlen hd
  | raised e t =>
    obtain ⟨rfl, -⟩ := demarshBody_raised_iff.1 h
    exact hs
  | stuck f => trivial

/-- The first five stages of DECODE, up to the plaintext in BUF (R210). -/
theorem decryptBody_endsIn (hs : P s) :
    (((((vdetBody params s).andThen (ivderBody params)).andThen (protocolKeyBody params)).andThen
      (ldbufBody params)).andThen (cryptBody params)).EndsIn P :=
  ((((vdetBody_endsIn hP hs).andThen fun _ => ivderBody_endsIn hP).andThen
    fun _ => protocolKeyBody_endsIn hP).andThen fun _ => ldbufBody_endsIn hP).andThen fun _ => cryptBody_endsIn hP

theorem bodyOf_endsIn (i : Instr) (hs : P s) : (bodyOf i s).EndsIn P := by
  cases i
  case decode => exact (decryptBody_endsIn hP hs).andThen fun _ => demarshBody_endsIn hP
  case vdet => exact vdetBody_endsIn hP hs
  case ivder => exact ivderBody_endsIn hP hs
  case keyld => exact keyldBody_endsIn hP hs
  case ldbuf => exact ldbufBody_endsIn hP hs
  case crypt => exact cryptBody_endsIn hP hs
  case demarsh => exact demarshBody_endsIn hP hs
  case gearc | gears | ptrain | tspd | tslip | flag => exact bodyOf_accessor_endsIn hP.toAccessorWritesKeep rfl hs

/-- What every single write keeps, every command keeps. -/
theorem exec_keeps {i : Instr} (hs : P s) (h : exec i s = .next t) : P t :=
  (bodyOf_endsIn hP i hs).of_finish hP.err (exec_eq_finish i s ▸ h)

end
end

/-- `t` has the host's registers of `s`, and its pending actions and last answer (R38). -/
structure SameHostRegisters (s t : State) : Prop where
  rxLen : t.rxLen = s.rxLen
  rx : t.rx = s.rx
  ksLen : t.ksLen = s.ksLen
  kstr : t.kstr = s.kstr
  expVar : t.expVar = s.expVar
  flagMax : t.flagMax = s.flagMax
  pending : t.pending = s.pending
  answer : t.answer = s.answer

theorem commandWritesKeep_sameHostRegisters (s : State) : CommandWritesKeep (SameHostRegisters s) where
  err _ _ h := { h with }
  res _ _ h := { h with }
  draw _ _ h := { h with }
  variant _ _ h := { h with }
  seed _ _ h := { h with }
  iv _ _ h := { h with }
  key _ _ h := { h with }
  load _ _ h _ _ := { h with }
  overwrite _ _ _ h _ _ := { h with }
  frame _ _ _ h _ _ := { h with }

/-- Settles O21: none of the writes of a command is to a register of the host. -/
theorem commandsLeaveTheHostsRegisters : Obligations.CommandsLeaveTheHostsRegisters := by
  intro i s t h
  obtain ⟨h1, h2, h3, h4, h5, h6, h7, h8⟩ :=
    exec_keeps (commandWritesKeep_sameHostRegisters s) ⟨rfl, rfl, rfl, rfl, rfl, rfl, rfl, rfl⟩ h
  exact ⟨h1, h2, h3, h4, h5, h6, h7, h8⟩

/-- `t` is `s` with other values in RES, ERR and the draw counter (R180, log 4). -/
def DiffersInResult (s t : State) : Prop := t = { s with res := t.res, err := t.err, draw := t.draw }

theorem accessorWritesKeep_differsInResult (s : State) : AccessorWritesKeep (DiffersInResult s) where
  err _ e h := congrArg (State.setErr · e) h
  res _ v h := congrArg (State.setRes · v) h
  draw _ k h := congrArg (State.advanceDraw · k) h

/-- Settles O27: the writes of an accessor are to RES, ERR and the draw counter. -/
theorem accessorsWriteResAndErrOnly : Obligations.AccessorsWriteResAndErrOnly := by
  intro i s t hi h
  have hP := accessorWritesKeep_differsInResult s
  exact (bodyOf_accessor_endsIn hP hi (s := s) rfl).of_finish hP.err (exec_eq_finish i s ▸ h)

end Sys2Proof.Machine
end

section
/-! PROOF. The invariant and the canonical form along a step (10_state.md R22 to R34; 20_memory.md R66 to R75): what a
host action can write, the invariant after every single write, and FVALID. -/

namespace Sys2Proof.Machine

/-! ### The length of what was read, and which bytes hold a value after a write -/

theorem Memory.length_of_readRange {m : Memory} {a n : Nat} {bs : List Byte} (h : m.readRange a n = some bs) :
    bs.length = n := by
  fun_induction Memory.readRange m a n generalizing bs with
  | case1 => simp_all
  | case2 => cases h
  | case3 a n k b m hk ih => exact ih h
  | case4 a n b m ha ih =>
    obtain ⟨cs, hcs, rfl⟩ := Option.map_eq_some_iff.1 h
    simp [ih hcs]
  | case5 => cases h

/-- A read of `n` bytes answers `n` bytes, in canonical form or not. -/
theorem length_of_readSpace {sp : Space} {m : Memory} {a n : Nat} {bs : List Byte} (h : readSpace sp m a n = .ok bs) :
    bs.length = n := by
  unfold readSpace at h
  split at h <;> cases h
  exact Memory.length_of_readRange ‹_›

theorem Memory.isSome_read_ofBytes (bs : List Byte) (a : Nat) : ((Memory.ofBytes bs).read a).isSome ↔ a < bs.length := by
  simp

theorem Memory.isSome_read_write_zero (m : Memory) (bs : List Byte) (a : Nat) :
    ((m.write 0 bs).read a).isSome ↔ a < bs.length ∨ (m.read a).isSome := by
  rw [Memory.read_write_zero]
  split <;> simp [*]

/-! ### What a host action can write -/

/-- `P` is kept by each single write of a command or of the host, but for HRESET. -/
structure HostWritesKeep (P : State → Prop) : Prop extends CommandWritesKeep P where
  rx : ∀ s (d : List Byte), P s → d.length ≤ 65535 →
    P (s.setRx (BitVec.ofNat 16 d.length) (Memory.ofBytes (d.take params.rxCap)))
  kstr : ∀ s (d : List Byte), P s → d.length ≤ 255 →
    P (s.setKstr (BitVec.ofNat 8 d.length) (Memory.ofBytes (d.take params.kstrCap)))
  expVar : ∀ s v, P s → P (s.setExpVar v)
  flagMax : ∀ s v, P s → v.toNat ≤ 16 → P (s.setFlagMax v)
  pending : ∀ s as, P s → P (s.setPending as)
  answer : ∀ s v, P s → P (s.setAnswer v)

/-- R71: HREADFRAME is refused, or it reads inside the held frame. -/
theorem hostReadFrame_cases (c : Config) (a n : Nat) (s : State) :
    hostReadFrame c a n s = .refused .readFrameNotAdmitted ∨
      ∃ size, heldSize c s = some size ∧ a + n ≤ size ∧
        hostReadFrame c a n s = answerRead ((readSpace .frame s.frame a n).map .bytes) s := by
  unfold hostReadFrame
  cases heldSize c s with
  | none => exact .inl rfl
  | some size =>
    by_cases h : a + n ≤ size
    · exact .inr ⟨size, rfl, h, if_pos h⟩
    · exact .inl (if_neg h)

/-- R71, R168: HFIELD is refused, or it reads an element of a field inside the held frame. -/
theorem hostField_cases (c : Config) (name : FieldName) (i : Nat) (s : State) :
    hostField c name i s = .refused .fieldNotAdmitted ∨
      ∃ size, heldSize c s = some size ∧ i < (c.layout name).count ∧
        (c.layout name).off + (c.layout name).count * fieldSize (c.layout name).type ≤ size ∧
        hostField c name i s = answerRead ((readField c s name i).map (fieldAnswer (c.layout name).type)) s := by
  unfold hostField
  cases heldSize c s with
  | none => exact .inl rfl
  | some size =>
    by_cases h : i < (c.layout name).count ∧
        (c.layout name).off + (c.layout name).count * fieldSize (c.layout name).type ≤ size
    · exact .inr ⟨size, rfl, h.1, h.2, if_pos h⟩
    · exact .inl (if_neg h)

theorem answerRead_eq_next {r : Except Fault HostAnswer} {s t : State} (h : answerRead r s = .next t) :
    ∃ v, t = s.setAnswer v := by
  cases r with
  | ok v => exact ⟨v, (Host.Outcome.next.inj h).symm⟩
  | error f => cases h

section
variable {P : State → Prop} (hP : HostWritesKeep P) {s t : State}
include hP

theorem answerRead_keeps {r : Except Fault HostAnswer} (hs : P s) (h : answerRead r s = .next t) : P t := by
  obtain ⟨v, rfl⟩ := answerRead_eq_next h
  exact hP.answer s v hs

theorem hostCmd_keeps {w : Half} (hs : P s) (h : perform (.cmd w) s = .next t) : P t := by
  cases hw : decodeWord w with
  | ok i => exact exec_keeps hP.toCommandWritesKeep hs (perform_cmd_of_ok hw s ▸ h)
  | error e =>
    obtain rfl := Host.Outcome.next.inj ((perform_cmd_of_error hw s).symm.trans h)
    exact hP.err s _ hs

/-- What every single write keeps, every host action but HRESET keeps. -/
theorem perform_keeps {a : HostAction} (ha : a ≠ .reset) (hs : P s) (h : perform a s = .next t) : P t := by
  cases a with
  | deliver d =>
    obtain ⟨hd, h⟩ | ⟨-, h⟩ := ite_eq_iff.1 h <;> cases h
    exact hP.rx s d hs hd
  | keyStr d =>
    obtain ⟨hd, h⟩ | ⟨-, h⟩ := ite_eq_iff.1 h <;> cases h
    exact hP.kstr s d hs hd
  | writeIv v =>
    cases h
    exact hP.iv s v hs
  | writeExpVar v =>
    cases hv : variantOfCode v with
    | none => exact Host.Outcome.next.inj ((perform_writeExpVar_of_none hv s).symm.trans h) ▸ hs
    | some x => exact Host.Outcome.next.inj ((perform_writeExpVar_of_some hv s).symm.trans h) ▸ hP.expVar s x hs
  | writeFlagMax v =>
    obtain ⟨hv, h⟩ | ⟨-, h⟩ := ite_eq_iff.1 h <;> cases h
    · exact hP.flagMax s v hs hv
    · exact hs
  | cmd w => exact hostCmd_keeps hP hs h
  | read r =>
    cases h
    exact hP.answer s _ hs
  | readBuf a n =>
    obtain ⟨-, h⟩ | ⟨-, h⟩ := ite_eq_iff.1 h
    · exact answerRead_keeps hP hs h
    · cases h
  | readFrame a n =>
    obtain hr | ⟨-, -, -, hr⟩ := hostReadFrame_cases params a n s
    · cases hr.symm.trans h
    · exact answerRead_keeps hP hs (hr.symm.trans h)
  | field name i =>
    obtain hr | ⟨-, -, -, -, hr⟩ := hostField_cases params name i s
    · cases hr.symm.trans h
    · exact answerRead_keeps hP hs (hr.symm.trans h)
  | reset => exact absurd rfl ha

end

/-! ### One step -/

/-- R73: a step with nothing pending changes nothing. -/
theorem step_of_pending_nil {s : State} (h : s.pending = []) : step s = .next s := by
  simp [step, performNext, h]

/-- R73: a step takes the next action off the list and performs it. -/
theorem step_of_pending_cons {s : State} {a : HostAction} {rest : List HostAction} (h : s.pending = a :: rest) :
    step s = perform a (s.setPending rest) := by
  simp [step, performNext, h]

/-- Settles O5: a step performs the first pending action, and HCMD of an accepted word runs its command. -/
theorem stepRunsTheDecodedCommand : Obligations.StepRunsTheDecodedCommand :=
  fun _ => ⟨fun _ _ h => step_of_pending_cons h,
    fun _ _ _ h hw => (step_of_pending_cons h).trans (perform_cmd_of_ok hw _), step_of_pending_nil⟩

/-- A step keeps what every single write keeps, or it performs HRESET. -/
theorem step_keeps {P : State → Prop} (hP : HostWritesKeep P) {s t : State} (hs : P s) (h : step s = .next t) :
    P t ∨ ∃ rest, s.pending = .reset :: rest ∧ perform .reset (s.setPending rest) = .next t := by
  cases hp : s.pending with
  | nil =>
    rw [step_of_pending_nil hp] at h
    cases h
    exact .inl hs
  | cons a rest =>
    rw [step_of_pending_cons hp] at h
    by_cases ha : a = .reset
    · subst ha
      exact .inr ⟨rest, rfl, h⟩
    · exact .inl (perform_keeps hP ha (hP.pending s rest hs) h)

theorem hostWritesKeep_fValid : HostWritesKeep fun s => s.fValid = true where
  err _ _ h := h
  res _ _ h := h
  draw _ _ h := h
  variant _ _ h := h
  seed _ _ h := h
  iv _ _ h := h
  key _ _ h := h
  load _ _ h _ _ := h
  overwrite _ _ _ h _ _ := h
  frame _ _ _ _ _ _ := rfl
  rx _ _ h _ := h
  kstr _ _ h _ := h
  expVar _ _ h := h
  flagMax _ _ h _ := h
  pending _ _ h := h
  answer _ _ h := h

/-- Settles O26: the one write to FVALID other than HRESET's sets it. -/
theorem onlyResetDiscardsAFrame : Obligations.OnlyResetDiscardsAFrame := by
  intro s t h hs
  refine (step_keeps hostWritesKeep_fValid hs h).imp_right ?_
  rintro ⟨rest, hp, -⟩
  simp [hp]

/-! ### The canonical form -/

theorem hostWritesKeep_canonical : HostWritesKeep State.Canonical where
  err _ _ h := { h with }
  res _ _ h := { h with }
  draw _ _ h := { h with }
  variant _ _ h := { h with }
  seed _ _ h := { h with }
  iv _ _ h := { h with }
  key _ _ h := { h with }
  load _ d h _ _ := { h with buf := Memory.ofBytes_wf d }
  overwrite _ _ bs h _ _ := { h with buf := Memory.write_wf h.buf 0 bs }
  frame _ _ d h _ _ := { h with frame := Memory.write_wf h.frame 0 d }
  rx _ _ h _ := { h with rx := Memory.ofBytes_wf _ }
  kstr _ _ h _ := { h with kstr := Memory.ofBytes_wf _ }
  expVar _ _ h := { h with }
  flagMax _ _ h _ := { h with }
  pending _ _ h := { h with }
  answer _ _ h := { h with }

/-- R39: the spaces are empty after reset. -/
theorem canonical_reset : State.reset.Canonical :=
  ⟨List.Pairwise.nil, List.Pairwise.nil, List.Pairwise.nil, List.Pairwise.nil⟩

/-- Settles O18: a written space is in canonical form, and so are the empty ones of HRESET. -/
theorem stepKeepsMemoryCanonical : Obligations.StepKeepsMemoryCanonical := by
  intro s t hs h
  obtain ht | ⟨rest, -, ht⟩ := step_keeps hostWritesKeep_canonical hs h
  · exact ht
  · cases ht
    exact { canonical_reset with }

/-! ### The invariant -/

theorem size_le_frameCap (v : Variant) : params.size v ≤ frameCap params := by
  cases v <;> decide

/-- Settles O16: after reset the spaces are empty, the lengths are 0, no frame is held and FLAGMAX is 12. -/
theorem resetMeetsTheInvariant : Obligations.ResetMeetsTheInvariant where
  canonical := canonical_reset
  rx a := by simp [State.reset]
  kstr a := by simp [State.reset]
  buf a := by simp [State.reset]
  len := by decide
  tag := rfl
  frame v hv := by cases hv
  frameCap a h := by cases h
  flagMax := by decide

/-- The elements of the state the invariant speaks of. -/
def invElements (s : State) :=
  ((s.rxLen, s.rx, s.ksLen, s.kstr, s.len), s.buf, s.frame, s.fVariant, s.fValid, s.flagMax)

theorem State.Inv.of_invElements_eq {s t : State} (hs : s.Inv) (h : invElements t = invElements s) : t.Inv := by
  cases s
  cases t
  simp only [invElements, Prod.mk.injEq] at h
  obtain ⟨⟨rfl, rfl, rfl, rfl, rfl⟩, rfl, rfl, rfl, rfl, rfl⟩ := h
  exact { hs with canonical := { hs.canonical with } }

/-- R22: HDELIVER stores as many bytes as RXLEN says, up to RX_CAP. -/
theorem State.Inv.setRx {s : State} (hs : s.Inv) {d : List Byte} (hd : d.length ≤ 65535) :
    (s.setRx (BitVec.ofNat 16 d.length) (Memory.ofBytes (d.take params.rxCap))).Inv where
  canonical := hostWritesKeep_canonical.rx s d hs.canonical hd
  rx a := by
    simp only [State.setRx_rx, State.setRx_rxLen, Memory.isSome_read_ofBytes, List.length_take, BitVec.toNat_ofNat]
    omega
  kstr := hs.kstr
  buf := hs.buf
  len := hs.len
  tag := hs.tag
  frame := hs.frame
  frameCap := hs.frameCap
  flagMax := hs.flagMax

/-- R23: HKEYSTR stores as many bytes as KSLEN says, up to KSTR_CAP. -/
theorem State.Inv.setKstr {s : State} (hs : s.Inv) {d : List Byte} (hd : d.length ≤ 255) :
    (s.setKstr (BitVec.ofNat 8 d.length) (Memory.ofBytes (d.take params.kstrCap))).Inv where
  canonical := hostWritesKeep_canonical.kstr s d hs.canonical hd
  rx := hs.rx
  kstr a := by
    simp only [State.setKstr_kstr, State.setKstr_ksLen, Memory.isSome_read_ofBytes, List.length_take, BitVec.toNat_ofNat]
    omega
  buf := hs.buf
  len := hs.len
  tag := hs.tag
  frame := hs.frame
  frameCap := hs.frameCap
  flagMax := hs.flagMax

/-- R28: BUF and LEN written together, as many bytes as LEN says. -/
theorem State.Inv.setBuf {s : State} (hs : s.Inv) {n : Half} {m : Memory} (hm : m.wf)
    (hbuf : ∀ a, (m.read a).isSome ↔ a < n.toNat) (hn : n.toNat ≤ params.bufCap) : (s.setBuf n m).Inv where
  canonical := { hs.canonical with buf := hm }
  rx := hs.rx
  kstr := hs.kstr
  buf := hbuf
  len := hn
  tag := hs.tag
  frame := hs.frame
  frameCap := hs.frameCap
  flagMax := hs.flagMax

/-- R28: LDBUF fills BUF with as many bytes as the datagram has. -/
theorem State.Inv.load {s : State} (hs : s.Inv) {d : List Byte} (hlen : s.rxLen.toNat ≤ params.bufCap)
    (hd : datagram s = .ok d) : (s.setBuf s.rxLen (Memory.ofBytes d)).Inv := by
  refine hs.setBuf (Memory.ofBytes_wf d) (fun a => ?_) hlen
  rw [Memory.isSome_read_ofBytes, length_of_readSpace hd]

/-- R28: CRYPT writes over as many bytes as BUF holds. -/
theorem State.Inv.overwrite {s : State} (hs : s.Inv) {d bs : List Byte} (hd : bufferBytes s = .ok d)
    (hbs : bs.length = d.length) : (s.setBuf s.len (s.buf.write 0 bs)).Inv := by
  refine hs.setBuf (Memory.write_wf hs.canonical.buf 0 bs) (fun a => ?_) hs.len
  rw [Memory.isSome_read_write_zero, hs.buf, hbs, length_of_readSpace hd, or_self]

/-- R29, R32: DEMARSH tags the frame with the variant whose size it has, and keeps the bytes above it. -/
theorem State.Inv.setFrame {s : State} (hs : s.Inv) {v : Variant} {d : List Byte} (hlen : s.len.toNat = params.size v)
    (hd : bufferBytes s = .ok d) : (s.setFrame (s.frame.write 0 d) v).Inv where
  canonical := { hs.canonical with frame := Memory.write_wf hs.canonical.frame 0 d }
  rx := hs.rx
  kstr := hs.kstr
  buf := hs.buf
  len := hs.len
  tag := rfl
  frame w hw a ha := by
    cases hw
    refine (Memory.isSome_read_write_zero _ _ _).2 (.inl ?_)
    rwa [length_of_readSpace hd, hlen]
  frameCap a ha := by
    have hcap := size_le_frameCap v
    obtain h | h := (Memory.isSome_read_write_zero _ _ _).1 ha
    · rw [length_of_readSpace hd] at h
      omega
    · exact hs.frameCap a h
  flagMax := hs.flagMax

/-- R34: FLAGMAX takes legal values only. -/
theorem State.Inv.setFlagMax {s : State} (hs : s.Inv) {v : BitVec 5} (hv : v.toNat ≤ 16) : (s.setFlagMax v).Inv :=
  { hs with canonical := { hs.canonical with }, flagMax := hv }

theorem hostWritesKeep_inv : HostWritesKeep State.Inv where
  err _ _ h := h.of_invElements_eq rfl
  res _ _ h := h.of_invElements_eq rfl
  draw _ _ h := h.of_invElements_eq rfl
  variant _ _ h := h.of_invElements_eq rfl
  seed _ _ h := h.of_invElements_eq rfl
  iv _ _ h := h.of_invElements_eq rfl
  key _ _ h := h.of_invElements_eq rfl
  load _ _ h hlen hd := h.load hlen hd
  overwrite _ _ _ h hd hbs := h.overwrite hd hbs
  frame _ _ _ h hlen hd := h.setFrame hlen hd
  rx _ _ h hd := h.setRx hd
  kstr _ _ h hd := h.setKstr hd
  expVar _ _ h := h.of_invElements_eq rfl
  flagMax _ _ h hv := h.setFlagMax hv
  pending _ _ h := h.of_invElements_eq rfl
  answer _ _ h := h.of_invElements_eq rfl

/-- Settles O17: every single write keeps the invariant, and HRESET gives a state that meets it. -/
theorem stepKeepsTheInvariant : Obligations.StepKeepsTheInvariant := by
  intro s t hs h
  obtain ht | ⟨rest, -, ht⟩ := step_keeps hostWritesKeep_inv hs h
  · exact ht
  · cases ht
    exact resetMeetsTheInvariant.of_invElements_eq rfl

/-- Settles O15: that is what `hostReset` answers. -/
theorem hostResetRestoresEveryRegister : Obligations.HostResetRestoresEveryRegister := fun _ => rfl

end Sys2Proof.Machine
end

section
/-! PROOF. From a state that meets the invariant nothing reads a byte that holds no value (10_state.md R22, R23, R28,
R29; 20_memory.md R73). -/

namespace Sys2Proof.Machine

/-! ### Reads of the held frame -/

/-- R32: the held frame's size, where one is held. -/
theorem heldSize_of_some {c : Config} {s : State} {v : Variant} (hs : s.fValid = true) (hv : s.fVariant = some v) :
    heldSize c s = some (c.size v) := by
  simp [heldSize, hs, hv]

theorem heldSize_of_noFrame {c : Config} {s : State} (hs : s.fValid = false) : heldSize c s = none := by
  simp [heldSize, hs]

/-- R29: every byte of the held frame holds a value. -/
theorem State.Inv.isSome_of_heldSize {s : State} (hs : s.Inv) {size : Nat} (h : heldSize params s = some size) {a : Nat}
    (ha : a < size) : (s.frame.read a).isSome := by
  unfold heldSize at h
  split at h
  case isTrue =>
    obtain ⟨v, hv, rfl⟩ := Option.map_eq_some_iff.1 h
    exact hs.frame v hv a ha
  case isFalse => cases h

/-- R29, R112: a held frame has at least VariantA's size. -/
theorem State.Inv.exists_heldSize {s : State} (hs : s.Inv) (hf : s.fValid = true) :
    ∃ size, heldSize params s = some size ∧ 296 ≤ size := by
  obtain ⟨v, hv⟩ := Option.isSome_iff_exists.1 (hs.tag ▸ hf)
  refine ⟨_, heldSize_of_some hf hv, ?_⟩
  cases v <;> decide

/-- R168: an element that lies in the held frame is read. -/
theorem State.Inv.readField {s : State} (hs : s.Inv) {size : Nat} (h : heldSize params s = some size) {name : FieldName}
    {i : Nat} (hle : (params.layout name).off + (i + 1) * fieldSize (params.layout name).type ≤ size) :
    ∃ w, Machine.readField params s name i = .ok w := by
  rw [Nat.add_one_mul] at hle
  obtain ⟨bs, hbs, -⟩ := readSpace_of_isSome .frame hs.canonical.frame
    (a := (params.layout name).off + i * fieldSize (params.layout name).type)
    (n := fieldSize (params.layout name).type) fun j hj => hs.isSome_of_heldSize h (by omega)
  exact ⟨le32 bs, by rw [Machine.readField, hbs]; rfl⟩

/-- R190: TireSpeed reads the two fields of a wheel, or nothing. -/
theorem State.Inv.tireSpeed {s : State} (hs : s.Inv) (hf : s.fValid = true) (i : Int) :
    ∃ w, Machine.tireSpeed params s i = .ok w := by
  obtain ⟨size, hsize, hle⟩ := hs.exists_heldSize hf
  unfold Machine.tireSpeed
  split
  case isTrue => exact ⟨_, rfl⟩
  case isFalse hi =>
    have hwheel : i.toNat ≤ 3 := by omega
    have hradius : 0xB4 + (i.toNat + 1) * 4 ≤ size := by omega
    have hrate : 0xA4 + (i.toNat + 1) * 4 ≤ size := by omega
    obtain ⟨r, hr⟩ := hs.readField hsize (name := .tireRadius) hradius
    obtain ⟨w, hw⟩ := hs.readField hsize (name := .wheelAngularRate) hrate
    rw [hr, hw]
    exact ⟨_, rfl⟩

/-- R193: SlipRatio reads the speed, and then what TireSpeed reads. -/
theorem State.Inv.slipRatio {s : State} (hs : s.Inv) (hf : s.fValid = true) (i : Int) :
    ∃ w, Machine.slipRatio params s i = .ok w := by
  obtain ⟨size, hsize, hle⟩ := hs.exists_heldSize hf
  have hspeed : 0x4C + (0 + 1) * 4 ≤ size := by omega
  obtain ⟨v, hv⟩ := hs.readField hsize (name := .speed) hspeed
  obtain ⟨t, ht⟩ := hs.tireSpeed hf i
  unfold Machine.slipRatio
  rw [hv, ht]
  cases h : params.numerics.fIsZero32 v <;> exact ⟨_, by simp [bind, Except.bind, h]; rfl⟩

/-! ### No command is stuck -/

theorem Body.reading_ne_stuck {α : Type} {r : Except Fault α} {k : α → Body} {f : Fault} (hr : ∃ x, r = .ok x)
    (hk : ∀ x, k x ≠ .stuck f) : Body.reading r k ≠ .stuck f := by
  obtain ⟨x, rfl⟩ := hr
  exact hk x

/-- A stage after one that ends in states with `P`, and is not stuck from those, is not stuck. -/
theorem Body.andThen_ne_stuck {P : State → Prop} {b : Body} {k : State → Body} {f : Fault} (hb : b.EndsIn P)
    (hstuck : b ≠ .stuck f) (hk : ∀ s, P s → k s ≠ .stuck f) : b.andThen k ≠ .stuck f := by
  cases b with
  | done s => exact hk s hb
  | raised e s => exact nofun
  | stuck g => exact hstuck

theorem accessorBody_ne_stuck {α : Type} {s : State} {r : Except Fault α} {k : α → State} {f : Fault}
    (hr : s.fValid = true → ∃ x, r = .ok x) : accessorBody s (.reading r fun x => .done (k x)) ≠ .stuck f := by
  cases h : s.fValid with
  | false => simp [h]
  | true =>
    rw [accessorBody_frame h]
    exact Body.reading_ne_stuck (hr h) nofun

theorem protocolKeyBody_ne_stuck {c : Config} (s : State) (f : Fault) : protocolKeyBody c s ≠ .stuck f := nofun

section
variable {s : State} (hs : s.Inv) (f : Fault)
include hs

/-- R121: from 68 bytes on the datagram holds the seed, which lies below RX_CAP. -/
theorem ivderBody_ne_stuck : ivderBody params s ≠ .stuck f := by
  unfold ivderBody
  split
  · exact nofun
  · split
    case isTrue => exact nofun
    case isFalse hlen =>
      have hoff : params.seedOff = 64 := rfl
      have hcap : params.rxCap = 4096 := rfl
      obtain ⟨d, hd, -⟩ := readSpace_of_isSome .rx hs.canonical.rx (a := params.seedOff) (n := 4) fun i hi =>
        (hs.rx _).2 (by omega)
      exact Body.reading_ne_stuck ⟨d, hd⟩ nofun

theorem keyldBody_ne_stuck : keyldBody s ≠ .stuck f :=
  have ⟨d, hd, _⟩ := keyStringRead_of_inv hs
  Body.reading_ne_stuck ⟨d, hd⟩ nofun

theorem ldbufBody_ne_stuck : ldbufBody params s ≠ .stuck f := by
  unfold ldbufBody
  split
  case isTrue => exact nofun
  case isFalse hlen =>
    obtain ⟨d, hd, -⟩ := datagram_of_inv hs (Nat.not_lt.1 hlen)
    exact Body.reading_ne_stuck ⟨d, hd⟩ nofun

theorem cryptBody_ne_stuck : cryptBody params s ≠ .stuck f :=
  have ⟨d, hd, _⟩ := bufferBytes_of_inv hs
  Body.reading_ne_stuck ⟨d, hd⟩ nofun

theorem acceptFrame_ne_stuck (v : Variant) : acceptFrame v s ≠ .stuck f :=
  have ⟨d, hd, _⟩ := bufferBytes_of_inv hs
  Body.reading_ne_stuck ⟨d, hd⟩ nofun

/-- R161: a buffer of a variant's size holds the signature word. -/
theorem bufferMagic_of_inv {v : Variant} (hlen : s.len.toNat = params.size v) : ∃ w, bufferMagic s = .ok w := by
  have hsize : 4 ≤ params.size v := by cases v <;> decide
  obtain ⟨d, hd, -⟩ := readSpace_of_isSome .buf hs.canonical.buf (a := 0) (n := 4) fun i hi => (hs.buf _).2 (by omega)
  exact ⟨le32 d, by rw [bufferMagic, hd]; rfl⟩

theorem demarshBody_ne_stuck : demarshBody params s ≠ .stuck f := by
  unfold demarshBody
  split
  · exact nofun
  next v hv =>
    split
    · exact nofun
    next hlen =>
      split
      · refine Body.reading_ne_stuck (bufferMagic_of_inv hs (not_not.1 hlen)) fun m => ?_
        split
        · exact nofun
        · exact acceptFrame_ne_stuck hs f v
      · exact acceptFrame_ne_stuck hs f v

theorem decodeBody_ne_stuck : decodeBody params s ≠ .stuck f := by
  have hP := hostWritesKeep_inv.toCommandWritesKeep
  have h1 := vdetBody_endsIn hP hs
  have h2 := h1.andThen fun _ => ivderBody_endsIn hP
  have h3 := h2.andThen fun _ => protocolKeyBody_endsIn hP
  have h4 := h3.andThen fun _ => ldbufBody_endsIn hP
  refine Body.andThen_ne_stuck (decryptBody_endsIn hP hs) ?_ fun _ h => demarshBody_ne_stuck h f
  refine Body.andThen_ne_stuck h4 ?_ fun _ h => cryptBody_ne_stuck h f
  refine Body.andThen_ne_stuck h3 ?_ fun _ h => ldbufBody_ne_stuck h f
  refine Body.andThen_ne_stuck h2 ?_ fun s _ => protocolKeyBody_ne_stuck s f
  exact Body.andThen_ne_stuck h1 (vdetBody_ne_stuck f) fun _ h => ivderBody_ne_stuck h f

/-- R185 to R200: an accessor reads fields that lie in the frame of every variant. -/
theorem bodyOf_accessor_ne_stuck {i : Instr} (hi : isAccessor i = true) : bodyOf i s ≠ .stuck f := by
  have hfield : ∀ name, (params.layout name).off + (0 + 1) * fieldSize (params.layout name).type ≤ 296 →
      s.fValid = true → ∃ w, readField params s name 0 = .ok w := fun name hle hf =>
    have ⟨_, hsize, hsize'⟩ := hs.exists_heldSize hf
    hs.readField hsize (hle.trans hsize')
  cases i
  case gearc | gears => exact accessorBody_ne_stuck (hfield .gears (by decide))
  case ptrain => exact accessorBody_ne_stuck (hfield .fuelCapacity (by decide))
  case flag => exact accessorBody_ne_stuck (hfield .flags (by decide))
  case tspd idx => exact accessorBody_ne_stuck fun hf => hs.tireSpeed hf idx
  case tslip idx => exact accessorBody_ne_stuck fun hf => hs.slipRatio hf idx
  all_goals cases hi

theorem bodyOf_ne_stuck (i : Instr) : bodyOf i s ≠ .stuck f := by
  cases i
  case decode => exact decodeBody_ne_stuck hs f
  case vdet => exact vdetBody_ne_stuck f
  case ivder => exact ivderBody_ne_stuck hs f
  case keyld => exact keyldBody_ne_stuck hs f
  case ldbuf => exact ldbufBody_ne_stuck hs f
  case crypt => exact cryptBody_ne_stuck hs f
  case demarsh => exact demarshBody_ne_stuck hs f
  case gearc | gears | ptrain | tspd | tslip | flag => exact bodyOf_accessor_ne_stuck hs f rfl

end

theorem exec_ne_fault {s : State} (hs : s.Inv) (i : Instr) (f : Fault) : exec i s ≠ .fault f := by
  rw [exec_eq_finish]
  exact fun h => bodyOf_ne_stuck hs f i (Body.finish_eq_fault_iff.1 h)

/-- Settles O20: a command is never refused, and from a state that meets the invariant it does not fault. -/
theorem everyCommandAnswersANextState : Obligations.EveryCommandAnswersANextState := by
  intro i s hs
  cases h : exec i s with
  | next t => exact ⟨t, rfl⟩
  | fault f => exact absurd h (exec_ne_fault hs i f)
  | refused r => exact absurd h (exec_ne_refused i s r)

/-! ### No host action faults -/

theorem answerRead_map_ne_fault {α : Type} {r : Except Fault α} (hr : ∃ x, r = .ok x) (k : α → HostAnswer) (s : State)
    (f : Fault) : answerRead (r.map k) s ≠ .fault f := by
  obtain ⟨x, rfl⟩ := hr
  exact nofun

/-- R71: the bytes of an admitted HREADBUF hold a value. -/
theorem readSpace_buf_of_inv {s : State} (hs : s.Inv) {a n : Nat} (h : a + n ≤ s.len.toNat) :
    ∃ bs, readSpace .buf s.buf a n = .ok bs ∧ bs.length = n ∧ ∀ i, i < n → s.buf.read (a + i) = bs[i]? :=
  readSpace_of_isSome .buf hs.canonical.buf fun _ _ => (hs.buf _).2 (by omega)

/-- R71: the bytes of an admitted HREADFRAME hold a value. -/
theorem readSpace_frame_of_inv {s : State} (hs : s.Inv) {a n size : Nat} (hsize : heldSize params s = some size)
    (h : a + n ≤ size) :
    ∃ bs, readSpace .frame s.frame a n = .ok bs ∧ bs.length = n ∧ ∀ i, i < n → s.frame.read (a + i) = bs[i]? :=
  readSpace_of_isSome .frame hs.canonical.frame fun _ _ => hs.isSome_of_heldSize hsize (by omega)

/-- R63, R73: no host action faults. -/
theorem perform_ne_fault {s : State} (hs : s.Inv) (a : HostAction) (f : Fault) : perform a s ≠ .fault f := by
  intro h
  cases a with
  | deliver d => obtain ⟨-, h⟩ | ⟨-, h⟩ := ite_eq_iff.1 h <;> cases h
  | keyStr d => obtain ⟨-, h⟩ | ⟨-, h⟩ := ite_eq_iff.1 h <;> cases h
  | writeIv v => cases h
  | writeExpVar v =>
    cases hv : variantOfCode v with
    | none => cases (perform_writeExpVar_of_none hv s).symm.trans h
    | some x => cases (perform_writeExpVar_of_some hv s).symm.trans h
  | writeFlagMax v => obtain ⟨-, h⟩ | ⟨-, h⟩ := ite_eq_iff.1 h <;> cases h
  | cmd w =>
    cases hw : decodeWord w with
    | ok i => exact exec_ne_fault hs i f (perform_cmd_of_ok hw s ▸ h)
    | error e => cases (perform_cmd_of_error hw s).symm.trans h
  | read r => cases h
  | readBuf a n =>
    obtain ⟨hle, h⟩ | ⟨-, h⟩ := ite_eq_iff.1 h
    · obtain ⟨bs, hbs, -⟩ := readSpace_buf_of_inv hs hle
      exact answerRead_map_ne_fault ⟨bs, hbs⟩ _ s f h
    · cases h
  | readFrame a n =>
    obtain hr | ⟨size, hsize, hle, hr⟩ := hostReadFrame_cases params a n s
    · cases hr.symm.trans h
    · obtain ⟨bs, hbs, -⟩ := readSpace_frame_of_inv hs hsize hle
      exact answerRead_map_ne_fault ⟨bs, hbs⟩ _ s f (hr.symm.trans h)
  | field name i =>
    obtain hr | ⟨size, hsize, hi, hle, hr⟩ := hostField_cases params name i s
    · cases hr.symm.trans h
    · have hmul := Nat.mul_le_mul_right (fieldSize (params.layout name).type) (Nat.add_one_le_iff.2 hi)
      exact answerRead_map_ne_fault (hs.readField hsize (by omega)) _ s f (hr.symm.trans h)
  | reset => cases h

/-- Settles O19: with nothing pending a step answers, and no host action faults. -/
theorem stepNeverFaults : Obligations.StepNeverFaults := by
  intro s hs f h
  cases hp : s.pending with
  | nil => cases (step_of_pending_nil hp).symm.trans h
  | cons a rest => exact perform_ne_fault (hostWritesKeep_inv.pending s rest hs) a f ((step_of_pending_cons hp).symm.trans h)

end Sys2Proof.Machine
end

section
/-! PROOF. The host's deliveries and reads, STATUS and the memory operations (20_memory.md R66, R67, R71; 10_state.md R32;
00_scope.md R8, R9; 43_demarshal.md R168). -/

namespace Sys2Proof.Machine

/-! ### HDELIVER and HKEYSTR -/

/-- A space filled with the first `cap` bytes of a sequence holds those and no other byte (R66, R67). -/
theorem Memory.read_ofBytes_take (d : List Byte) (cap a : Nat) :
    (Memory.ofBytes (d.take cap)).read a = if a < cap then d[a]? else none := by
  rw [Memory.read_ofBytes, List.getElem?_take]

/-- Settles O7: RXLEN holds the length of up to 65535 bytes exactly, RX the first 4096 of them. -/
theorem deliverStoresTheDatagram : Obligations.DeliverStoresTheDatagram := by
  refine fun s d => ⟨fun h => ⟨_, if_pos h, rfl, ?_, Memory.read_ofBytes_take d params.rxCap⟩,
    fun h => if_neg (Nat.not_le.2 h)⟩
  exact (BitVec.toNat_ofNat ..).trans (Nat.mod_eq_of_lt (Nat.lt_succ_of_le h))

/-- Settles O8: KSLEN holds the length of up to 255 bytes exactly, KSTR the first 64 of them. -/
theorem keyStringIsStored : Obligations.KeyStringIsStored := by
  refine fun s d => ⟨fun h => ⟨_, if_pos h, rfl, ?_, Memory.read_ofBytes_take d params.kstrCap⟩,
    fun h => if_neg (Nat.not_le.2 h)⟩
  exact (BitVec.toNat_ofNat ..).trans (Nat.mod_eq_of_lt (Nat.lt_succ_of_le h))

/-! ### HREADBUF and HREADFRAME -/

/-- R71: without a frame, or beyond its size, HREADFRAME is refused. -/
theorem hostReadFrame_refused {c : Config} {a n : Nat} {s : State} (h : ∀ size, heldSize c s = some size → size < a + n) :
    hostReadFrame c a n s = .refused .readFrameNotAdmitted := by
  obtain hr | ⟨size, hsize, hle, -⟩ := hostReadFrame_cases c a n s
  · exact hr
  · exact absurd hle (Nat.not_le.2 (h size hsize))

/-- R71: inside the held frame, HREADFRAME answers the bytes read. -/
theorem hostReadFrame_of_le {c : Config} {a n size : Nat} {s : State} (hsize : heldSize c s = some size)
    (h : a + n ≤ size) :
    hostReadFrame c a n s = answerRead ((readSpace .frame s.frame a n).map .bytes) s := by
  simp [hostReadFrame, hsize, h]

/-- A frame is held of the tagged variant only. -/
theorem heldSize_eq_some {c : Config} {s : State} {v : Variant} {size : Nat} (hv : s.fVariant = some v)
    (h : heldSize c s = some size) : size = c.size v := by
  unfold heldSize at h
  split at h <;> simp_all

/-- Settles O10: under the invariant the tag says that a frame is held, and the bytes below LEN and below the frame's size
hold a value. -/
theorem admittedReadsReturnTheBytes : Obligations.AdmittedReadsReturnTheBytes := by
  refine fun s a n hs => ⟨fun h => ?buf, fun h => ?bufRefused, fun v hv h => ?frame, fun v hv h => ?frameRefused,
    fun hf => ?noFrame⟩
  case buf =>
    obtain ⟨bs, hbs, hbytes⟩ := readSpace_buf_of_inv hs h
    exact ⟨bs, (if_pos h).trans (by rw [hbs]; rfl), hbytes⟩
  case bufRefused => exact if_neg (Nat.not_le.2 h)
  case frame =>
    have hsize : heldSize params s = some (params.size v) := heldSize_of_some (hs.tag.trans (by rw [hv]; rfl)) hv
    obtain ⟨bs, hbs, hbytes⟩ := readSpace_frame_of_inv hs hsize h
    exact ⟨bs, (hostReadFrame_of_le hsize h).trans (by rw [hbs]; rfl), hbytes⟩
  case frameRefused => exact hostReadFrame_refused fun size hsize => heldSize_eq_some hv hsize ▸ h
  case noFrame => exact hostReadFrame_refused fun size hsize => nomatch (heldSize_of_noFrame hf).symm.trans hsize

/-! ### HFIELD -/

theorem leValue_lt (bs : List Byte) : leValue bs < 256 ^ bs.length := by
  induction bs with
  | nil => simp [leValue]
  | cons b bs ih =>
    have hb : b.toNat < 256 := b.isLt
    rw [leValue, List.length_cons, Nat.pow_succ]
    omega

theorem toNat_le32 {bs : List Byte} (h : bs.length ≤ 4) : (le32 bs).toNat = leValue bs := by
  have hlt := leValue_lt bs
  have hpow : 256 ^ bs.length ≤ 256 ^ 4 := Nat.pow_le_pow_right (by decide) h
  rw [le32, BitVec.toNat_ofNat, Nat.mod_eq_of_lt (by omega)]

/-- R168: the answer to a field read is the meaning of the bytes' little-endian value under the field's type. -/
theorem fieldAnswer_le32 {t : FieldType} {bs : List Byte} (h : bs.length = fieldSize t) :
    fieldAnswer t (le32 bs) = fieldMeaning t (leValue bs) := by
  have hlt := leValue_lt bs
  have hle : bs.length ≤ 4 := by
    rw [h]
    cases t <;> decide
  have hval := toNat_le32 hle
  rw [h] at hlt
  cases t
  case u8 | u16 | u32 => simp [fieldAnswer, fieldMeaning, hval]
  case f32 => rfl
  case s16 =>
    replace hlt : leValue bs < 65536 := hlt
    simp only [fieldAnswer, fieldMeaning, BitVec.toInt_eq_toNat_cond, BitVec.toNat_setWidth, hval, Nat.mod_eq_of_lt hlt]
    congr 1
    split <;> split <;> omega
  case s32 =>
    simp only [fieldAnswer, fieldMeaning, BitVec.toInt_eq_toNat_cond, hval]
    congr 1
    split <;> split <;> omega

/-- R71, R168: without a frame, an element at or above the field's count or a field beyond the frame's size is
refused. -/
theorem hostField_refused {c : Config} {name : FieldName} {i : Nat} {s : State}
    (h : ∀ size, heldSize c s = some size → i < (c.layout name).count →
      size < (c.layout name).off + (c.layout name).count * fieldSize (c.layout name).type) :
    hostField c name i s = .refused .fieldNotAdmitted := by
  obtain hr | ⟨size, hsize, hi, hle, -⟩ := hostField_cases c name i s
  · exact hr
  · exact absurd hle (Nat.not_le.2 (h size hsize hi))

/-- R71, R168: an element of a field of the held frame answers the meaning of its bytes. -/
theorem hostField_of_bytes {c : Config} {name : FieldName} {i size : Nat} {s : State} {bs : List Byte} (hm : s.frame.wf)
    (hsize : heldSize c s = some size) (hi : i < (c.layout name).count)
    (hle : (c.layout name).off + (c.layout name).count * fieldSize (c.layout name).type ≤ size)
    (hlen : bs.length = fieldSize (c.layout name).type)
    (hbytes : ∀ j, j < fieldSize (c.layout name).type →
      s.frame.read ((c.layout name).off + i * fieldSize (c.layout name).type + j) = bs[j]?) :
    hostField c name i s = .next (s.setAnswer (fieldMeaning (c.layout name).type (leValue bs))) := by
  have hread : readField c s name i = .ok (le32 bs) := (readField_ok_iff hm).2 ⟨bs, hlen, hbytes, rfl⟩
  rw [← fieldAnswer_le32 hlen]
  simp only [hostField, hsize, hi, hle, and_self, if_true, hread]
  rfl

/-- Settles O12: HFIELD answers the meaning of the element's bytes; the gear byte is such an element of every variant's
frame, and the tails begin where the smaller frames end. -/
theorem fieldReadsComeFromTheFrame : Obligations.FieldReadsComeFromTheFrame := by
  refine ⟨fun c s v name i hm hf hv => ⟨fun bs hi hle hlen hbytes => ?answers, fun hi => ?noElement, fun hlt => ?noField⟩,
    fun c s name i hf => ?noFrame, fun s => ⟨fun name i => rfl, fun g hs hf hg => ?gears, fun hv i => ?tailB,
    fun hv i => ?tailC⟩⟩
  case answers => exact hostField_of_bytes hm (heldSize_of_some hf hv) hi hle hlen hbytes
  case noElement => exact hostField_refused fun _ _ hi' => absurd hi' (Nat.not_lt.2 hi)
  case noField => exact hostField_refused fun size hsize _ => heldSize_eq_some hv hsize ▸ hlt
  case noFrame => exact hostField_refused fun size hsize _ => nomatch (heldSize_of_noFrame hf).symm.trans hsize
  case gears =>
    obtain ⟨size, hsize, hle⟩ := hs.exists_heldSize hf
    refine hostField_of_bytes (name := .gears) (bs := [g]) hs.canonical.frame hsize (by decide)
      (Nat.le_trans (by decide) hle) rfl fun j hj => ?_
    obtain rfl : j = 0 := Nat.lt_one_iff.1 hj
    exact hg
  case tailB =>
    refine hostField_refused fun size hsize _ => ?_
    rw [heldSize_eq_some hv hsize]
    decide
  case tailC =>
    refine hostField_refused fun size hsize _ => ?_
    obtain hv | hv := hv
    all_goals
      rw [heldSize_eq_some hv hsize]
      decide

/-! ### HREAD and STATUS -/

/-- Settles O11: each register is answered as it stands, EXPVAR by the code of its variant. -/
theorem registerReadsAnswerTheRegister : Obligations.RegisterReadsAnswerTheRegister := by
  have hexp : ∀ s : State, perform (.read .expVar) s =
      .next { s with answer := some (.reg ((variantCode s.expVar).setWidth 32)) } := fun _ => rfl
  refine fun s => ⟨rfl, rfl, rfl, rfl, rfl, fun h => ?_, fun h => ?_, fun h => ?_, rfl, rfl, rfl⟩
  all_goals
    rw [hexp, h]
    rfl

section
variable (s : State)

theorem statusWord_err : (statusWord s).extractLsb' 0 4 = s.err.code :=
  BitVec.extractLsb'_append_eq_right

theorem statusWord_variant : (statusWord s).extractLsb' 4 2 = variantField s.variant :=
  (BitVec.extractLsb'_append_eq_of_le (by decide)).trans BitVec.extractLsb'_append_eq_right

theorem statusWord_fVariant : (statusWord s).extractLsb' 6 2 = variantField s.fVariant :=
  (BitVec.extractLsb'_append_eq_of_le (by decide)).trans
    ((BitVec.extractLsb'_append_eq_of_le (by decide)).trans BitVec.extractLsb'_append_eq_right)

theorem statusWord_fValid : (statusWord s).getLsbD 8 = s.fValid := by
  simp only [statusWord, BitVec.getLsbD_append]
  simp

theorem statusWord_high : (statusWord s).extractLsb' 9 7 = 0 := by
  iterate 4 refine (BitVec.extractLsb'_append_eq_of_le (by decide)).trans ?_
  rfl

end

/-- Settles O13: STATUS is its five fields laid end to end. -/
theorem statusWordFields : Obligations.StatusWordFields := by
  intro s
  rw [statusWord_err, statusWord_variant, statusWord_fVariant, statusWord_fValid, statusWord_high]
  refine ⟨?_, ?_, ?_, ?_, ?_, ?_, ?_, ?_, ?_, ?_, ?_, ?_, ?_, ?_, ?_, ?_, rfl, rfl⟩
  all_goals
    intro h
    rw [h]
    rfl

/-! ### Memory and byte order -/

/-- Settles O28: the two laws of `Memory.write`. -/
theorem readAfterWrite : Obligations.ReadAfterWrite :=
  fun m a bs hm => ⟨Memory.write_wf hm a bs, Memory.read_write m a bs⟩

/-- Settles O29: four bytes make a number below 2^32, so nothing is cut off. -/
theorem littleEndianAssembly : Obligations.LittleEndianAssembly := by
  refine ⟨fun b0 b1 b2 b3 => ?_, bytesLE32_eq_extracts⟩
  have hlen : [b0, b1, b2, b3].length ≤ 4 := le_rfl
  rw [toNat_le32 hlen]
  simp only [leValue]
  omega

end Sys2Proof.Machine
end

section
/-! PROOF. The cipher (42_cipher.md R130, R137, R144, R146, R148): quarterround, the input matrix, the laws of the XOR
datapath and of CRYPT. -/

namespace Sys2Proof.Machine

/-! ### The XOR datapath -/

/-- R148 (b): the same keystream twice is none. -/
theorem cryptBytes_cryptBytes (c : Config) (k : Vector Byte 32) (n : Vector Byte 8) (x : List Byte) :
    cryptBytes c k n (cryptBytes c k n x) = x := by
  refine List.ext_getElem? fun p => ?_
  rw [getElem?_cryptBytes, getElem?_cryptBytes, Option.map_map]
  cases x[p]? with
  | none => rfl
  | some b => simp

/-- R148 (c): prefixes encrypt to prefixes. -/
theorem cryptBytes_take (c : Config) (k : Vector Byte 32) (n : Vector Byte 8) (x : List Byte) (m : Nat) :
    cryptBytes c k n (x.take m) = (cryptBytes c k n x).take m := by
  refine List.ext_getElem? fun p => ?_
  rw [getElem?_cryptBytes, List.getElem?_take, List.getElem?_take, getElem?_cryptBytes]
  split <;> rfl

/-- Settles O38: each clause is read off the output byte by byte. -/
theorem cipherWorksBytewise : Obligations.CipherWorksBytewise := by
  refine fun c k n x => ⟨getElem?_cryptBytes c k n x, fun m => ⟨cryptBytes_take c k n x m, fun p hp => ?_⟩⟩
  rw [getElem?_cryptBytes, List.getElem?_replicate_of_lt hp, Option.map_some]
  exact congrArg some BitVec.zero_xor

/-- Settles O39: a position below the length lies in one of the blocks. -/
theorem blockwiseKeystreamIsPositional : Obligations.BlockwiseKeystreamIsPositional :=
  fun c k n _ _ hp => getElem?_keystream c k n hp

/-! ### CRYPT twice -/

/-- Writing back what a canonical space held restores it. -/
theorem Memory.write_zero_write_zero {m : Memory} (hm : m.wf) {x d : List Byte} (hlen : x.length = d.length)
    (hd : ∀ i, i < d.length → m.read i = d[i]?) : (m.write 0 x).write 0 d = m := by
  refine Memory.ext (Memory.write_wf (Memory.write_wf hm 0 x) 0 d) hm fun p => ?_
  rw [Memory.read_write_zero, Memory.read_write_zero, hlen]
  split
  case isTrue hp => exact (hd p hp).symm
  case isFalse => rfl

/-- What was written over a whole canonical space from index 0 is read back. -/
theorem readSpace_write_zero (sp : Space) {m : Memory} (hm : m.wf) (x : List Byte) :
    readSpace sp (m.write 0 x) 0 x.length = .ok x := by
  refine (readSpace_ok_iff (Memory.write_wf hm 0 x)).2 ⟨rfl, fun i hi => ?_⟩
  rw [Nat.zero_add, Memory.read_write_zero, if_pos hi]

/-- Settles O37: the second CRYPT reads what the first wrote, ciphers it back to the first plaintext and writes that over
it. -/
theorem cryptIsAnInvolution : Obligations.CryptIsAnInvolution := by
  intro s t hs h
  obtain ⟨d, hread, hlen, hbytes⟩ := bufferBytes_of_inv hs
  obtain rfl := Host.Outcome.next.inj ((exec_crypt_of_bufferBytes hread).symm.trans h)
  have hread' : bufferBytes ((s.setBuf s.len (s.buf.write 0 (cryptBytes params s.key s.iv d))).setErr .none) =
      .ok (cryptBytes params s.key s.iv d) := by
    have hback := readSpace_write_zero .buf hs.canonical.buf (cryptBytes params s.key s.iv d)
    rwa [length_cryptBytes, hlen] at hback
  rw [exec_crypt_of_bufferBytes hread']
  simp only [State.setErr_key, State.setErr_iv, State.setErr_len, State.setErr_buf, State.setBuf_key, State.setBuf_iv,
    State.setBuf_len, State.setBuf_buf, cryptBytes_cryptBytes]
  rw [Memory.write_zero_write_zero hs.canonical.buf (length_cryptBytes _ _ _ d) (hlen ▸ hbytes)]
  rfl

/-! ### Salsa20 -/

/-- R10: the model's rotation is the rotation of bit vectors. -/
theorem rotl32_eq_rotateLeft (a : Word) {n : Nat} (hn : n < 32) : rotl32 a n = a.rotateLeft n := by
  rw [BitVec.rotateLeft_def, Nat.mod_eq_of_lt hn, rotl32]

/-- Settles O40: the four equations are those of `quarterround`, with R10's rotation. -/
theorem quarterroundFollowsItsEquations : Obligations.QuarterroundFollowsItsEquations := by
  refine ⟨fun y0 y1 y2 y3 => ⟨_, _, _, _, rfl, ?_, ?_, ?_, ?_⟩, by decide⟩
  all_goals rw [rotl32_eq_rotateLeft _ (by decide)]

theorem wordAt_take (l : List Byte) {i n : Nat} (h : 4 * i + 4 ≤ n) : wordAt (l.take n) i = wordAt l i := by
  rw [wordAt, wordAt, List.drop_take, List.take_take, Nat.min_eq_left (by omega)]

theorem wordAt_drop (l : List Byte) (i k : Nat) : wordAt (l.drop (4 * k)) i = wordAt l (k + i) := by
  rw [wordAt, wordAt, List.drop_drop, Nat.mul_add]

/-- R141: where a sequence ends at a word's end, its words come first and those of the rest follow. -/
theorem wordAt_append {a b : List Byte} {k : Nat} (ha : a.length = 4 * k) (i : Nat) :
    wordAt (a ++ b) i = if i < k then wordAt a i else wordAt b (i - k) := by
  split
  case isTrue h =>
    rw [wordAt, wordAt, List.drop_append_of_le_length (by omega), List.take_append_of_le_length (by simp; omega)]
  case isFalse h =>
    obtain ⟨j, rfl⟩ := Nat.exists_eq_add_of_le (Nat.not_lt.1 h)
    rw [Nat.add_sub_cancel_left, wordAt, wordAt, Nat.mul_add, ← ha, List.drop_append]
    rw [List.drop_eq_nil_of_le (Nat.le_add_right _ _), List.nil_append, Nat.add_sub_cancel_left]

theorem bytesLE_add (m n v : Nat) : bytesLE (m + n) v = bytesLE m v ++ bytesLE n (v / 256 ^ m) := by
  induction m generalizing v with
  | zero => simp [bytesLE]
  | succ m ih => simp [Nat.add_right_comm, bytesLE, ih, Nat.pow_succ', Nat.div_div_eq_div_mul]

/-- Four bytes of a number make its low 32 bits. -/
theorem wordAt_bytesLE_four (v : Nat) : wordAt (bytesLE 4 v) 0 = BitVec.ofNat 32 v := by
  rw [wordAt, Nat.mul_zero, List.drop_zero, List.take_of_length_le (by simp), le32, leValue_bytesLE]
  exact BitVec.eq_of_toNat_eq (by simp)

/-- R144: the two halves of the block number. -/
theorem wordAt_bytesLE64 (j : BitVec 64) :
    wordAt (bytesLE64 j) 0 = j.extractLsb' 0 32 ∧ wordAt (bytesLE64 j) 1 = j.extractLsb' 32 32 := by
  rw [bytesLE64, bytesLE_add 4 4, wordAt_append (k := 1) (length_bytesLE 4 _), wordAt_append (k := 1) (length_bytesLE 4 _)]
  refine ⟨wordAt_bytesLE_four _, (wordAt_bytesLE_four _).trans ?_⟩
  have hpow : 256 ^ 4 = 2 ^ 32 := rfl
  rw [BitVec.extractLsb', Nat.shiftRight_eq_div_pow, hpow]

/-- R144: which of the eight parts of the input block word `i` lies in. -/
theorem wordAt_salsa20Input (k : Vector Byte 32) (n : Vector Byte 8) (j : BitVec 64) (i : Nat) :
    wordAt (salsa20Input k n j) i =
      if i < 15 then
        if i < 11 then
          if i < 10 then
            if i < 8 then
              if i < 6 then
                if i < 5 then
                  if i < 1 then wordAt sigma0 i else wordAt (k.toList.take 16) (i - 1)
                else wordAt sigma1 (i - 5)
              else wordAt n.toList (i - 6)
            else wordAt (bytesLE64 j) (i - 8)
          else wordAt sigma2 (i - 10)
        else wordAt (k.toList.drop 16) (i - 11)
      else wordAt sigma3 (i - 15) := by
  have hlen : (bytesLE64 j).length = 8 := length_bytesLE 8 _
  unfold salsa20Input
  rw [wordAt_append (k := 15), wordAt_append (k := 11), wordAt_append (k := 10), wordAt_append (k := 8),
    wordAt_append (k := 6), wordAt_append (k := 5), wordAt_append (k := 1)]
  all_goals simp [sigma0, sigma1, sigma2, hlen]

/-- Settles O41: each word lies in one part; the key's two halves hold its words 0 to 3 and 4 to 7. -/
theorem salsaInputMatrix : Obligations.SalsaInputMatrix := by
  intro k n j
  have hlow (i : Nat) (hi : i < 4) : wordAt (k.toList.take 16) i = wordAt k.toList i := wordAt_take _ (by omega)
  have hhigh (i : Nat) : wordAt (k.toList.drop 16) i = wordAt k.toList (4 + i) := wordAt_drop _ i 4
  obtain ⟨hj0, hj1⟩ := wordAt_bytesLE64 j
  have hsigma : wordAt sigma0 0 = 0x61707865 ∧ wordAt sigma1 0 = 0x3320646E ∧ wordAt sigma2 0 = 0x79622D32 ∧
      wordAt sigma3 0 = 0x6B206574 := by decide
  simp [Matrix.ofBytes, Matrix.words, wordAt_salsa20Input, hlow, hhigh, hj0, hj1, hsigma]

end Sys2Proof.Machine
end

section
/-! PROOF. DEMARSH and DECODE (43_demarshal.md R161 to R163; 45_decode.md R210, R211, R213). DECODE is one equation: without
a known length it ends in VDET, with one it is DEMARSH of the decrypted datagram. -/

namespace Sys2Proof.Machine

theorem exec_of_body_done {i : Instr} {s t : State} (h : bodyOf i s = .done t) : exec i s = .next (t.setErr .none) := by
  rw [exec_eq_finish, h, Body.finish_done]

theorem exec_of_body_raised {i : Instr} {s t : State} {e : ErrCode} (h : bodyOf i s = .raised e t) :
    exec i s = .next (t.setErr e) := by
  rw [exec_eq_finish, h, Body.finish_raised]

/-! ### The signature word -/

theorem bytesLE_leValue (bs : List Byte) : bytesLE bs.length (leValue bs) = bs := by
  induction bs with
  | nil => rfl
  | cons b bs ih =>
    have hb : b.toNat < 256 := b.isLt
    have hdiv : (b.toNat + 256 * leValue bs) / 256 = leValue bs := by omega
    have hlow : BitVec.ofNat 8 (b.toNat + 256 * leValue bs) = b := by
      apply BitVec.eq_of_toNat_eq
      rw [BitVec.toNat_ofNat]
      omega
    rw [List.length_cons, leValue, bytesLE, hdiv, hlow, ih]

theorem bytesLE32_le32 {bs : List Byte} (h : bs.length = 4) : bytesLE32 (le32 bs) = bs := by
  rw [bytesLE32, toNat_le32 h.le, ← h, bytesLE_leValue]

/-- The word at the front of a sequence, byte by byte (R161). -/
theorem le32_take_eq_iff {x : List Byte} (hx : 4 ≤ x.length) (w : Word) :
    le32 (x.take 4) = w ↔ ∀ p, p < 4 → x[p]? = some (w.extractLsb' (8 * p) 8) := by
  have hlen : (x.take 4).length = 4 := by simpa using hx
  constructor
  · rintro rfl p hp
    rw [← getElem?_bytesLE32 _ hp, bytesLE32_le32 hlen, List.getElem?_take_of_lt hp]
  · intro h
    have hfront : x.take 4 = bytesLE32 w := by
      refine List.ext_getElem? fun p => ?_
      rw [List.getElem?_take]
      split
      case isTrue hp => rw [h p hp, getElem?_bytesLE32 w hp]
      case isFalse hp => exact (List.getElem?_eq_none (by simpa using hp)).symm
    rw [hfront, le32_bytesLE32]

/-! ### DEMARSH -/

/-- R161: with the variant, the size and the signature right, DEMARSH copies the plaintext and tags the frame. -/
theorem exec_demarsh_of_magic {s : State} {v : Variant} {d : List Byte} (hv : s.variant = some v)
    (hlen : s.len.toNat = params.size v) (hmagic : bufferMagic s = .ok params.magic) (hd : bufferBytes s = .ok d) :
    exec .demarsh s = .next ((s.setFrame (s.frame.write 0 d) v).setErr .none) := by
  have hbody : demarshBody params s = .done (s.setFrame (s.frame.write 0 d) v) :=
    demarshBody_done_iff.2 ⟨v, d, hv, hlen, fun _ => hmagic, hd, rfl⟩
  exact exec_of_body_done hbody

theorem bufferMagic_of_holdsWord {s : State} {w : Word} (hm : s.buf.wf) (h : holdsWord s.buf 0 w) :
    bufferMagic s = .ok w := by
  rw [bufferMagic, readSpace_of_holdsWord hm h, Except.map, le32_bytesLE32]

/-- Settles O42: the plaintext has the frame's size, so FRAME reads as BUF below it and as before above it. -/
theorem demarshAcceptsTheFrame : Obligations.DemarshAcceptsTheFrame := by
  intro s v hs hv hlen hmagic
  obtain ⟨d, hread, hd, hbytes⟩ := bufferBytes_of_inv hs
  refine ⟨_, exec_demarsh_of_magic hv hlen (bufferMagic_of_holdsWord hs.canonical.buf hmagic) hread, rfl, fun a => ?_⟩
  rw [State.setErr_frame, State.setFrame_frame, Memory.read_write_zero, hd, hlen]
  split
  case isTrue ha => exact (hbytes a (hlen ▸ ha)).symm
  case isFalse => rfl

/-- Settles O43: the three tests of DEMARSH in their order. -/
theorem demarshRaises : Obligations.DemarshRaises := by
  refine fun s => ⟨fun hv => ?noVariant, fun v hv hlen => ?size, fun v w hv hlen hm hw hne => ?signature⟩
  all_goals refine exec_of_body_raised (i := .demarsh) (demarshBody_raised_iff.2 ⟨rfl, ?_⟩)
  case noVariant => exact .inl ⟨hv, rfl⟩
  case size => exact .inr (.inl ⟨v, hv, hlen, rfl⟩)
  case signature =>
    have hmagic : params.hasMagic v = true := by cases v <;> rfl
    exact .inr (.inr ⟨v, w, hv, hlen, hmagic, bufferMagic_of_holdsWord hm hw, hne, rfl⟩)

/-! ### DECODE as one equation -/

/-- The plaintext of a datagram under the protocol key and the IV of its seed (R120, R146, R210). -/
def plaintext (v : Variant) (seed : Word) (b : List Byte) : List Byte :=
  cryptBytes params (keyProto params) (deriveIv params v seed) b

theorem length_plaintext (v : Variant) (seed : Word) (b : List Byte) : (plaintext v seed b).length = b.length :=
  length_cryptBytes ..

/-- The state after the first five stages of DECODE, with the plaintext `x` in BUF (R210). -/
def State.decrypted (s : State) (v : Variant) (seed : Word) (x : List Byte) : State :=
  ((((s.setVariant (some v)).setSeed seed).setIv (deriveIv params v seed)).setKey (keyProto params)).setBuf s.rxLen
    (Memory.ofBytes x)

/-- What the stages write, as one update. For any key and IV: with K_PROTO in place, `rfl` would compute it. -/
theorem stageWrites_eq (s : State) (v : Variant) (seed : Word) (iv : Vector Byte 8) (k : Vector Byte 32) (n : Half)
    (m : Memory) :
    ((((s.setVariant (some v)).setSeed seed).setIv iv).setKey k).setBuf n m =
      { s with variant := some v, seed := seed, iv := iv, key := k, len := n, buf := m } := rfl

theorem decrypted_eq (s : State) (v : Variant) (seed : Word) (x : List Byte) :
    s.decrypted v seed x = { s with variant := some v, seed := seed, iv := deriveIv params v seed, key := keyProto params,
                                    len := s.rxLen, buf := Memory.ofBytes x } :=
  stageWrites_eq ..

/-- R110: the one length a variant is detected by. -/
theorem size_of_classify {n : Nat} {v : Variant} (h : classify params n = some v) : n = params.size v := by
  unfold classify at h
  split at h
  · cases h; assumption
  · split at h
    · cases h; assumption
    · split at h <;> cases h
      assumption

/-- R6: a datagram of a known size holds the seed and fits BUF. -/
theorem size_bounds (v : Variant) : params.seedOff + 4 ≤ params.size v ∧ params.size v ≤ params.bufCap := by
  cases v <;> decide

theorem vdetBody_of_classify {s : State} {v : Variant} (h : classify params s.rxLen.toNat = some v) :
    vdetBody params s = .done (s.setVariant (some v)) :=
  vdetBody_done_iff.2 ⟨v, h, rfl⟩

/-- Writing over the whole of a space filled from index 0 fills it anew. -/
theorem Memory.write_zero_ofBytes {b x : List Byte} (h : x.length = b.length) :
    (Memory.ofBytes b).write 0 x = Memory.ofBytes x := by
  refine Memory.ext (Memory.write_wf (Memory.ofBytes_wf b) 0 x) (Memory.ofBytes_wf x) fun p => ?_
  rw [Memory.read_write_zero, Memory.read_ofBytes, Memory.read_ofBytes]
  split
  case isTrue => rfl
  case isFalse hp => rw [List.getElem?_eq_none (by omega), List.getElem?_eq_none (by omega)]

/-- R146: CRYPT of a buffer that was just filled. -/
theorem cryptBody_of_filled {s : State} {b : List Byte} (hbuf : s.buf = Memory.ofBytes b) (hlen : b.length = s.len.toNat) :
    cryptBody params s = .done (s.setBuf s.len (Memory.ofBytes (cryptBytes params s.key s.iv b))) := by
  have hread : bufferBytes s = .ok b := by
    rw [bufferBytes, hbuf, ← hlen, readSpace, Memory.readRange_ofBytes]
  rw [← Memory.write_zero_ofBytes (length_cryptBytes params s.key s.iv b), ← hbuf]
  exact cryptBody_done_iff.2 ⟨b, hread, rfl⟩

theorem Body.reading_andThen {α : Type} (r : Except Fault α) (k : α → Body) (k' : State → Body) :
    (Body.reading r k).andThen k' = Body.reading r fun x => (k x).andThen k' := by
  cases r <;> rfl

theorem Body.reading_congr {α : Type} {r : Except Fault α} {k k' : α → Body} (h : ∀ x, r = .ok x → k x = k' x) :
    Body.reading r k = Body.reading r k' := by
  cases r with
  | ok x => exact h x rfl
  | error f => rfl

/-- R121: with a variant and a datagram long enough, IVDER reads the seed. -/
theorem ivderBody_of_variant {s : State} {v : Variant} (hv : s.variant = some v)
    (hlen : params.seedOff + 4 ≤ s.rxLen.toNat) :
    ivderBody params s = .reading (seedBytes params s) fun d =>
      .done ((s.setSeed (le32 d)).setIv (deriveIv params v (le32 d))) := by
  simp [ivderBody, hv, Nat.not_lt.2 hlen]

/-- R134, R146: LDBUF of a datagram that fits, and CRYPT after it. -/
theorem ldbufBody_andThen_cryptBody {s : State} (hlen : s.rxLen.toNat ≤ params.bufCap) (k : State → Body) :
    ((ldbufBody params s).andThen fun t => (cryptBody params t).andThen k) = .reading (datagram s) fun b =>
      k (s.setBuf s.rxLen (Memory.ofBytes (cryptBytes params s.key s.iv b))) := by
  rw [ldbufBody, if_neg (Nat.not_lt.2 hlen), Body.reading_andThen]
  refine Body.reading_congr fun b hb => ?_
  have hblen : b.length = s.rxLen.toNat := length_of_readSpace hb
  rw [Body.andThen_done, cryptBody_of_filled (s := s.setBuf s.rxLen (Memory.ofBytes b)) rfl hblen]
  rfl

/-- R210: DECODE of a datagram of a known size reads the seed and the datagram and demarshals the plaintext. -/
theorem decodeBody_of_classify {s : State} {v : Variant} (h : classify params s.rxLen.toNat = some v) :
    decodeBody params s = .reading (seedBytes params s) fun d => .reading (datagram s) fun b =>
      demarshBody params (s.decrypted v (le32 d) (plaintext v (le32 d) b)) := by
  obtain ⟨hseed, hcap⟩ := size_bounds v
  rw [← size_of_classify h] at hseed hcap
  simp only [decodeBody, Body.andThen_assoc]
  rw [vdetBody_of_classify h, Body.andThen_done, ivderBody_of_variant (s := s.setVariant (some v)) rfl hseed,
    Body.reading_andThen]
  refine Body.reading_congr fun d _ => ?_
  rw [Body.andThen_done, protocolKeyBody, Body.andThen_done, ldbufBody_andThen_cryptBody ?_]
  · rfl
  · exact hcap

/-- R210, R211: DECODE of a datagram of a known size that is read ends done or with SignatureMismatch, by the front of
the plaintext. -/
theorem decodeBody_of_read {s : State} {v : Variant} {d b : List Byte} (h : classify params s.rxLen.toNat = some v)
    (hd : seedBytes params s = .ok d) (hb : datagram s = .ok b) :
    decodeBody params s =
      if le32 ((plaintext v (le32 d) b).take 4) = params.magic then
        .done ((s.decrypted v (le32 d) (plaintext v (le32 d) b)).setFrame
          (s.frame.write 0 (plaintext v (le32 d) b)) v)
      else .raised .signatureMismatch (s.decrypted v (le32 d) (plaintext v (le32 d) b)) := by
  rw [decodeBody_of_classify h, hd, hb, Body.reading_ok, Body.reading_ok]
  have hx : (plaintext v (le32 d) b).length = s.rxLen.toNat := (length_plaintext ..).trans (length_of_readSpace hb)
  generalize plaintext v (le32 d) b = x at hx ⊢
  have hsize : x.length = params.size v := hx.trans (size_of_classify h)
  have hfour : 4 ≤ x.length := by
    rw [hsize]
    cases v <;> decide
  have hmagic : bufferMagic (s.decrypted v (le32 d) x) = .ok (le32 (x.take 4)) := by
    have hread : readSpace .buf (Memory.ofBytes x) 0 4 = .ok (x.take 4) := by
      refine (readSpace_ok_iff (Memory.ofBytes_wf x)).2 ⟨by simpa using hfour, fun i hi => ?_⟩
      rw [Nat.zero_add, Memory.read_ofBytes, List.getElem?_take_of_lt hi]
    exact congrArg (Except.map le32) hread
  have hbuf : bufferBytes (s.decrypted v (le32 d) x) = .ok x := by
    have hread : readSpace .buf (Memory.ofBytes x) 0 x.length = .ok x := by
      rw [readSpace, Memory.readRange_ofBytes]
    rwa [hx] at hread
  split
  case isTrue heq =>
    exact demarshBody_done_iff.2 ⟨v, x, rfl, hx.symm.trans hsize, fun _ => heq ▸ hmagic, hbuf, rfl⟩
  case isFalse hne =>
    have hhas : params.hasMagic v = true := by cases v <;> rfl
    exact demarshBody_raised_iff.2 ⟨rfl, .inr (.inr ⟨v, _, rfl, hx.symm.trans hsize, hhas, hmagic, hne, rfl⟩)⟩

/-- R211, R221: a datagram of no known size ends DECODE in its first stage. -/
theorem decodeBody_of_classify_none {s : State} (h : classify params s.rxLen.toNat = none) :
    decodeBody params s = .raised .unrecognizedVariant (s.setVariant none) :=
  decodeBody_raised_iff.2 (.inl (vdetBody_raised_iff.2 ⟨h, rfl, rfl⟩))

/-- Settles O45: none of the three sizes is the length. -/
theorem decodeRejectsAnUnknownLength : Obligations.DecodeRejectsAnUnknownLength := by
  intro s ha hb hc
  have hsize : ∀ v, s.rxLen.toNat ≠ params.size v
    | .a => ha
    | .b => hb
    | .c => hc
  exact exec_of_body_raised (i := .decode) (decodeBody_of_classify_none (classify_eq_none hsize))

/-! ### DECODE of a datagram in RX -/

section
variable {s : State} {v : Variant} {seed : Word}

/-- R210: the bytes DECODE reads of a datagram of a known size in RX. -/
theorem reads_of_size (hs : s.Inv) (hlen : s.rxLen.toNat = params.size v) (hseed : holdsWord s.rx 0x40 seed) :
    ∃ b, classify params s.rxLen.toNat = some v ∧ seedBytes params s = .ok (bytesLE32 seed) ∧ datagram s = .ok b ∧
      ∀ p, s.rx.read p = b[p]? := by
  obtain ⟨-, hcap⟩ := size_bounds v
  rw [← hlen] at hcap
  obtain ⟨b, hb, hblen, hbytes⟩ := datagram_of_inv hs hcap
  refine ⟨b, hlen ▸ classify_params_size v, readSpace_of_holdsWord hs.canonical.rx hseed, hb, fun p => ?_⟩
  by_cases hp : p < s.rxLen.toNat
  · exact hbytes p hp
  · have hnone : s.rx.read p = none := by
      rw [← Option.not_isSome_iff_eq_none, hs.rx]
      omega
    rw [hnone, List.getElem?_eq_none (by omega)]

/-- Byte `p` of the plaintext is byte `p` of the datagram xor byte `p` of the keystream (R146). -/
theorem getElem?_plaintext {b : List Byte} (hb : ∀ p, s.rx.read p = b[p]?) (p : Nat) :
    (plaintext v seed b)[p]? =
      (s.rx.read p).map (· ^^^ keystreamByte params (keyProto params) (deriveIv params v seed) p) := by
  rw [plaintext, getElem?_cryptBytes, hb]

/-- R161: the plaintext carries the signature when its first four bytes are the magic's. -/
theorem magic_plaintext_iff {b : List Byte} (hb : ∀ p, s.rx.read p = b[p]?) (hlen : 4 ≤ b.length) :
    le32 ((plaintext v seed b).take 4) = params.magic ↔
      ∀ p, p < 4 → (s.rx.read p).map (· ^^^ keystreamByte params (keyProto params) (deriveIv params v seed) p) =
        some ((0x47375330 : Word).extractLsb' (8 * p) 8) := by
  rw [le32_take_eq_iff (hlen.trans (length_plaintext ..).ge)]
  simp only [getElem?_plaintext hb]
  exact Iff.rfl

end

/-- Settles O44: DECODE done writes the plaintext to BUF and over the front of FRAME. -/
theorem decodeAcceptsAFrame : Obligations.DecodeAcceptsAFrame := by
  intro s v seed hs hlen hseed hmagic
  obtain ⟨b, hclass, hd, hb, hbytes⟩ := reads_of_size hs hlen hseed
  have hblen : b.length = params.size v := (length_of_readSpace hb).trans hlen
  have hfour : 4 ≤ b.length := by
    rw [hblen]
    cases v <;> decide
  have hbody := decodeBody_of_read hclass hd hb
  rw [le32_bytesLE32, if_pos ((magic_plaintext_iff hbytes hfour).2 hmagic)] at hbody
  rw [decrypted_eq] at hbody
  refine ⟨_, exec_of_body_done hbody, rfl, fun p => ?buf, fun p => ?frame⟩
  case buf => exact (Memory.read_ofBytes _ p).trans (getElem?_plaintext hbytes p)
  case frame =>
    refine (Memory.read_write_zero _ _ p).trans ?_
    rw [length_plaintext, hblen]
    split
    case isTrue => exact (Memory.read_ofBytes _ p).symm
    case isFalse => rfl

/-- Settles O46: DECODE raises SignatureMismatch after it wrote the plaintext to BUF. -/
theorem decodeRejectsABadSignature : Obligations.DecodeRejectsABadSignature := by
  intro s v seed hs hlen hseed hbad
  obtain ⟨b, hclass, hd, hb, hbytes⟩ := reads_of_size hs hlen hseed
  have hfour : 4 ≤ b.length := by
    rw [length_of_readSpace hb, hlen]
    cases v <;> decide
  have hbody := decodeBody_of_read hclass hd hb
  obtain ⟨p, hp, hne⟩ := hbad
  rw [le32_bytesLE32, if_neg fun h => hne ((magic_plaintext_iff hbytes hfour).1 h p hp)] at hbody
  rw [decrypted_eq] at hbody
  refine ⟨_, exec_of_body_raised hbody, rfl, fun p => ?_⟩
  exact (Memory.read_ofBytes _ p).trans (getElem?_plaintext hbytes p)

end Sys2Proof.Machine
end

section
/-! PROOF. What a command raises, what it leaves then, and what it does not read (60_exceptions.md R229, R231;
43_demarshal.md R162; 45_decode.md R213; 10_state.md R33). -/

namespace Sys2Proof.Machine

/-! ### DECODE's ends, from any state -/

/-- R210: DECODE that is not stuck has found no variant, or it has read the seed and the datagram. -/
theorem reads_of_decodeBody_ne_stuck {s : State} (h : ∀ f, decodeBody params s ≠ .stuck f) :
    classify params s.rxLen.toNat = none ∨
      ∃ v d b, classify params s.rxLen.toNat = some v ∧ seedBytes params s = .ok d ∧ datagram s = .ok b := by
  cases hclass : classify params s.rxLen.toNat with
  | none => exact .inl rfl
  | some v =>
    rw [decodeBody_of_classify hclass] at h
    cases hd : seedBytes params s with
    | error f => exact absurd (by rw [hd, Body.reading_error]) (h f)
    | ok d =>
      cases hb : datagram s with
      | error f => exact absurd (by rw [hd, hb, Body.reading_ok, Body.reading_error]) (h f)
      | ok b => exact .inr ⟨v, d, b, rfl, rfl, rfl⟩

/-- R211: DECODE raises UnrecognizedVariant at once, or SignatureMismatch when it has decrypted the datagram. -/
theorem decodeBody_raised {s t : State} {e : ErrCode} (h : decodeBody params s = .raised e t) :
    (e = .unrecognizedVariant ∧ t = s.setVariant none) ∨
      e = .signatureMismatch ∧ ∃ v seed x, t = s.decrypted v seed x := by
  obtain hclass | ⟨v, d, b, hclass, hd, hb⟩ := reads_of_decodeBody_ne_stuck fun f hf => nomatch hf.symm.trans h
  · cases (decodeBody_of_classify_none hclass).symm.trans h
    exact .inl ⟨rfl, rfl⟩
  · rw [decodeBody_of_read hclass hd hb] at h
    split at h <;> cases h
    exact .inr ⟨rfl, v, _, _, rfl⟩

/-! ### What a command raises -/

variable {i : Instr} {s t : State} {e : ErrCode}

/-- R225: an accessor raises NoFrame on the state it found. -/
theorem bodyOf_accessor_raised (hi : isAccessor i = true) (h : bodyOf i s = .raised e t) : e = .noFrame ∧ t = s := by
  cases i
  case gearc => exact (gearcBody_raised_iff.1 h).2
  case gears => exact (gearsBody_raised_iff.1 h).2
  case ptrain => exact (ptrainBody_raised_iff.1 h).2
  case tspd => exact (tspdBody_raised_iff.1 h).2
  case tslip => exact (tslipBody_raised_iff.1 h).2
  case flag => exact (flagBody_raised_iff.1 h).2
  all_goals cases hi

/-- R229: a command raises the errors of its row. -/
theorem mem_mayRaise_of_raised (h : bodyOf i s = .raised e t) : e ∈ mayRaise i := by
  cases i
  case decode => obtain ⟨rfl, -⟩ | ⟨rfl, -⟩ := decodeBody_raised h <;> decide
  case vdet =>
    obtain ⟨-, rfl, -⟩ := vdetBody_raised_iff.1 h
    decide
  case ivder => obtain ⟨-, ⟨-, rfl⟩ | ⟨-, -, -, rfl⟩⟩ := ivderBody_raised_iff.1 h <;> decide
  case keyld => exact absurd h keyldBody_ne_raised
  case ldbuf =>
    obtain ⟨-, rfl, -⟩ := ldbufBody_raised_iff.1 h
    decide
  case crypt => exact absurd h cryptBody_ne_raised
  case demarsh =>
    obtain ⟨-, ⟨-, rfl⟩ | ⟨-, -, -, rfl⟩ | ⟨-, -, -, -, -, -, -, rfl⟩⟩ := demarshBody_raised_iff.1 h <;> decide
  case gearc | gears | ptrain | tspd | tslip | flag =>
    obtain ⟨rfl, -⟩ := bodyOf_accessor_raised rfl h
    exact List.mem_singleton.2 rfl

/-- R229, R231: only DECODE and VDET write something before they raise. -/
theorem eq_self_of_raised (hdecode : i ≠ .decode) (hvdet : i ≠ .vdet) (h : bodyOf i s = .raised e t) : t = s := by
  cases i
  case decode => exact absurd rfl hdecode
  case vdet => exact absurd rfl hvdet
  case ivder => exact (ivderBody_raised_iff.1 h).1
  case keyld => exact absurd h keyldBody_ne_raised
  case ldbuf => exact (ldbufBody_raised_iff.1 h).2.2
  case crypt => exact absurd h cryptBody_ne_raised
  case demarsh => exact (demarshBody_raised_iff.1 h).1
  case gearc | gears | ptrain | tspd | tslip | flag => exact (bodyOf_accessor_raised rfl h).2

/-- A next state whose ERR is not None is that of a raise. -/
theorem raised_of_exec (h : exec i s = .next t) (he : t.err ≠ .none) :
    ∃ u, bodyOf i s = .raised t.err u ∧ t = u.setErr t.err := by
  rw [exec_eq_finish] at h
  obtain ⟨u, -, rfl⟩ | ⟨e, u, hu, rfl⟩ := Body.finish_eq_next_iff.1 h
  · exact absurd rfl he
  · exact ⟨u, hu, rfl⟩

/-- Settles O23: a command done leaves None, and one that raised leaves an error of its row, on the state it found
unless it is DECODE or VDET. -/
theorem commandsRaiseOnlyTheErrorsOfTheTable : Obligations.CommandsRaiseOnlyTheErrorsOfTheTable := by
  intro i s t h
  refine ⟨?errors, fun he hdecode hvdet => ?frame⟩
  case errors =>
    by_cases he : t.err = .none
    · exact .inl he
    · obtain ⟨u, hu, -⟩ := raised_of_exec h he
      exact .inr (mem_mayRaise_of_raised hu)
  case frame =>
    obtain ⟨u, hu, ht⟩ := raised_of_exec h he
    obtain rfl := eq_self_of_raised hdecode hvdet hu
    exact ht

/-- Settles O22: VDET writes VARIANT before it raises, DECODE the elements up to BUF, every other command nothing. -/
theorem raisingCommandLeavesTheFrame : Obligations.RaisingCommandLeavesTheFrame := by
  intro i s t h he
  obtain ⟨u, hu, ht⟩ := raised_of_exec h he
  rw [ht]
  by_cases hdecode : i = .decode
  · subst hdecode
    obtain ⟨-, rfl⟩ | ⟨-, v, seed, x, rfl⟩ := decodeBody_raised hu
    · exact ⟨rfl, rfl, rfl, rfl⟩
    · rw [decrypted_eq]
      exact ⟨rfl, rfl, rfl, rfl⟩
  · by_cases hvdet : i = .vdet
    · subst hvdet
      obtain ⟨-, -, rfl⟩ := vdetBody_raised_iff.1 hu
      exact ⟨rfl, rfl, rfl, rfl⟩
    · obtain rfl := eq_self_of_raised hdecode hvdet hu
      exact ⟨rfl, rfl, rfl, rfl⟩

/-! ### DECODE depends on the datagram alone -/

/-- Settles O48: whether the datagram is read, and what comes of it, is decided by RXLEN and RX. -/
theorem decodeDependsOnTheDatagramAlone : Obligations.DecodeDependsOnTheDatagramAlone := by
  intro s s' t hlen hrx h
  have hstuck : ∀ f, decodeBody params s ≠ .stuck f := fun f hf => by
    rw [exec_eq_finish, bodyOf, hf] at h
    cases h
  obtain hclass | ⟨v, d, b, hclass, hd, hb⟩ := reads_of_decodeBody_ne_stuck hstuck
  · have hnext := exec_of_body_raised (i := .decode) (decodeBody_of_classify_none hclass)
    obtain rfl := Host.Outcome.next.inj (hnext.symm.trans h)
    have hbody' := decodeBody_of_classify_none (s := s') (hlen ▸ hclass)
    exact ⟨_, exec_of_body_raised (i := .decode) hbody', rfl, rfl, fun hv => absurd rfl hv, fun he => nomatch he⟩
  · have hbody := decodeBody_of_read hclass hd hb
    have hbody' := decodeBody_of_read (s := s') (hlen ▸ hclass) (by rwa [seedBytes, ← hrx])
      (by rwa [datagram, ← hrx, ← hlen])
    have hxlen : (plaintext v (le32 d) b).length = s.rxLen.toNat :=
      (length_plaintext ..).trans (length_of_readSpace hb)
    rw [decrypted_eq] at hbody hbody'
    generalize plaintext v (le32 d) b = x at hbody hbody' hxlen
    split at hbody
    case isTrue hmagic =>
      obtain rfl := Host.Outcome.next.inj ((exec_of_body_done (i := .decode) hbody).symm.trans h)
      rw [if_pos hmagic] at hbody'
      refine ⟨_, exec_of_body_done (i := .decode) hbody', rfl, rfl, fun _ => ⟨rfl, rfl, rfl, hlen.symm, rfl⟩,
        fun _ => ⟨rfl, rfl, fun a ha => ?_⟩⟩
      replace ha : a < x.length := hxlen ▸ ha
      have hfront (m : Memory) : (m.write 0 x).read a = x[a]? := (Memory.read_write_zero m x a).trans (if_pos ha)
      exact (hfront s'.frame).trans (hfront s.frame).symm
    case isFalse hmagic =>
      obtain rfl := Host.Outcome.next.inj ((exec_of_body_raised (i := .decode) hbody).symm.trans h)
      rw [if_neg hmagic] at hbody'
      exact ⟨_, exec_of_body_raised (i := .decode) hbody', rfl, rfl, fun _ => ⟨rfl, rfl, rfl, hlen.symm, rfl⟩,
        fun he => nomatch he⟩

/-! ### EXPVAR -/

/-- `f` applied to the state a body ends in. -/
def Body.mapState (f : State → State) : Body → Body
  | .done s => .done (f s)
  | .raised e s => .raised e (f s)
  | .stuck g => .stuck g

/-- A stage that carries another EXPVAR through: it does not read it (R33). -/
def CarriesExpVar (k : State → Body) : Prop := ∀ s v, k (s.setExpVar v) = (k s).mapState (·.setExpVar v)

theorem Body.mapState_reading {α : Type} (f : State → State) (r : Except Fault α) (k : α → Body) :
    (Body.reading r k).mapState f = Body.reading r fun x => (k x).mapState f := by
  cases r <;> rfl

theorem Body.mapState_ite (f : State → State) (p : Prop) [Decidable p] (b b' : Body) :
    (if p then b else b').mapState f = if p then b.mapState f else b'.mapState f :=
  apply_ite (Body.mapState f) p b b'

theorem Body.finish_mapState_setExpVar (b : Body) (v : Variant) :
    (b.mapState (·.setExpVar v)).finish = mapNext (·.setExpVar v) b.finish := by
  cases b <;> rfl

theorem CarriesExpVar.andThen {k k' : State → Body} (hk : CarriesExpVar k) (hk' : CarriesExpVar k') :
    CarriesExpVar fun s => (k s).andThen k' := fun s v => by
  simp only [hk s v]
  cases k s with
  | done t => exact hk' t v
  | raised e t => rfl
  | stuck f => rfl

theorem carriesExpVar_vdetBody (c : Config) : CarriesExpVar (vdetBody c) := fun s v => by
  rw [vdetBody, vdetBody, State.setExpVar_rxLen]
  cases classify c s.rxLen.toNat <;> rfl

theorem carriesExpVar_ivderBody (c : Config) : CarriesExpVar (ivderBody c) := fun s v => by
  rw [ivderBody, ivderBody, State.setExpVar_variant]
  cases s.variant with
  | none => rfl
  | some w =>
    simp only [Body.mapState_ite, Body.mapState_reading]
    rfl

theorem carriesExpVar_keyldBody : CarriesExpVar keyldBody := fun s v => by
  rw [keyldBody, keyldBody, Body.mapState_reading]
  rfl

theorem carriesExpVar_protocolKeyBody (c : Config) : CarriesExpVar (protocolKeyBody c) := fun _ _ => rfl

theorem carriesExpVar_ldbufBody (c : Config) : CarriesExpVar (ldbufBody c) := fun s v => by
  rw [ldbufBody, ldbufBody, Body.mapState_ite, Body.mapState_reading]
  rfl

theorem carriesExpVar_cryptBody (c : Config) : CarriesExpVar (cryptBody c) := fun s v => by
  rw [cryptBody, cryptBody, Body.mapState_reading]
  rfl

theorem mapState_acceptFrame (w : Variant) (s : State) (v : Variant) :
    (acceptFrame w s).mapState (·.setExpVar v) = acceptFrame w (s.setExpVar v) := by
  rw [acceptFrame, acceptFrame, Body.mapState_reading]
  rfl

theorem carriesExpVar_demarshBody (c : Config) : CarriesExpVar (demarshBody c) := fun s v => by
  rw [demarshBody, demarshBody, State.setExpVar_variant]
  cases s.variant with
  | none => rfl
  | some w =>
    simp only [Body.mapState_ite, Body.mapState_reading, mapState_acceptFrame]
    rfl

theorem carriesExpVar_decodeBody (c : Config) : CarriesExpVar (decodeBody c) :=
  (((((carriesExpVar_vdetBody c).andThen (carriesExpVar_ivderBody c)).andThen (carriesExpVar_protocolKeyBody c)).andThen
    (carriesExpVar_ldbufBody c)).andThen (carriesExpVar_cryptBody c)).andThen (carriesExpVar_demarshBody c)

theorem carriesExpVar_accessorBody {α : Type} {r : State → Except Fault α} {k : State → α → State}
    (hr : ∀ s v, r (s.setExpVar v) = r s) (hk : ∀ s v x, k (s.setExpVar v) x = (k s x).setExpVar v) :
    CarriesExpVar fun s => accessorBody s (.reading (r s) fun x => .done (k s x)) := fun s v => by
  simp only [accessorBody, State.setExpVar_fValid, Body.mapState_ite, Body.mapState_reading, hr, hk]
  rfl

theorem carriesExpVar_bodyOf (i : Instr) : CarriesExpVar (bodyOf i) := by
  cases i
  case decode => exact carriesExpVar_decodeBody params
  case vdet => exact carriesExpVar_vdetBody params
  case ivder => exact carriesExpVar_ivderBody params
  case keyld => exact carriesExpVar_keyldBody
  case ldbuf => exact carriesExpVar_ldbufBody params
  case crypt => exact carriesExpVar_cryptBody params
  case demarsh => exact carriesExpVar_demarshBody params
  case gearc | gears | ptrain | tspd | tslip | flag =>
    exact carriesExpVar_accessorBody (fun _ _ => rfl) fun _ _ _ => rfl

/-- Settles O25: each command carries EXPVAR through. -/
theorem commandsDoNotReadExpVar : Obligations.CommandsDoNotReadExpVar := by
  intro i s v
  rw [exec_eq_finish, exec_eq_finish]
  exact (congrArg Body.finish (carriesExpVar_bodyOf i s v)).trans (Body.finish_mapState_setExpVar _ v)

end Sys2Proof.Machine
end

section
/-! PROOF. The accessors on a held frame (44_accessors.md R185 to R200). -/

namespace Sys2Proof.Machine

variable {s : State}

/-! ### Reading the fields -/

/-- A field of four bytes whose bytes hold a word is read as that word (R168). -/
theorem readField_of_holdsWord {c : Config} {name : FieldName} {i : Nat} {w : Word} (hm : s.frame.wf)
    (hsize : fieldSize (c.layout name).type = 4) (h : holdsWord s.frame ((c.layout name).off + 4 * i) w) :
    readField c s name i = .ok w := by
  refine (readField_ok_iff hm).2 ⟨bytesLE32 w, hsize ▸ length_bytesLE32 w, fun j hj => ?_, le32_bytesLE32 w⟩
  rw [hsize] at hj ⊢
  rw [Nat.mul_comm i 4]
  exact (h j hj).trans (getElem?_bytesLE32 w hj).symm

/-- The gear byte, zero-extended (R185). -/
theorem readField_gears {g : Byte} (hm : s.frame.wf) (h : s.frame.read 0x90 = some g) :
    ∃ w, readField params s .gears 0 = .ok w ∧ w.setWidth 8 = g := by
  refine ⟨_, (readField_ok_iff hm).2 ⟨[g], rfl, fun j hj => ?_, rfl⟩, ?_⟩
  · obtain rfl : j = 0 := Nat.lt_one_iff.1 hj
    exact h
  · have hg := g.isLt
    apply BitVec.eq_of_toNat_eq
    rw [BitVec.toNat_setWidth, toNat_le32 (by simp)]
    simp only [leValue]
    omega

/-- The flag mask, zero-extended (R200). -/
theorem readField_flags {m : Half} (hm : s.frame.wf) (h : holdsHalf s.frame 0x8E m) :
    ∃ w, readField params s .flags 0 = .ok w ∧ w.setWidth 16 = m := by
  refine ⟨_, (readField_ok_iff hm).2 ⟨[m.extractLsb' 0 8, m.extractLsb' 8 8], rfl, fun j hj => ?_, rfl⟩, ?_⟩
  · replace hj : j < 2 := hj
    refine (h j hj).trans ?_
    interval_cases j <;> rfl
  · have hm' := m.isLt
    apply BitVec.eq_of_toNat_eq
    rw [BitVec.toNat_setWidth, toNat_le32 (by simp)]
    simp only [leValue, BitVec.extractLsb'_toNat, Nat.shiftRight_eq_div_pow]
    omega

/-! ### GEARC, GEARS, PTRAIN and FLAG -/

theorem setWidth_and_low_nibble (g : Byte) : (g &&& 0x0F).setWidth 32 = (g.extractLsb' 0 4).setWidth 32 := by
  have hand : (g &&& 0x0F).toNat = g.toNat % 2 ^ 4 := Nat.and_two_pow_sub_one_eq_mod g.toNat 4
  apply BitVec.eq_of_toNat_eq
  rw [BitVec.toNat_setWidth, BitVec.toNat_setWidth, hand, BitVec.extractLsb'_toNat, Nat.shiftRight_zero]

theorem setWidth_shiftRight_four (g : Byte) : (g >>> 4).setWidth 32 = (g.extractLsb' 4 4).setWidth 32 := by
  have hg := g.isLt
  apply BitVec.eq_of_toNat_eq
  simp [Nat.shiftRight_eq_div_pow]
  omega

/-- Settles O50: the mask keeps the low nibble, the shift the high one. -/
theorem gearAccessorsReadTheNibbles : Obligations.GearAccessorsReadTheNibbles := by
  intro s g hm hs hg
  obtain ⟨w, hread, rfl⟩ := readField_gears hm hg
  rw [← setWidth_and_low_nibble, ← setWidth_shiftRight_four]
  exact ⟨exec_of_body_done (i := .gearc) (gearcBody_done_iff.2 ⟨hs, w, hread, rfl⟩),
    exec_of_body_done (i := .gears) (gearsBody_done_iff.2 ⟨hs, w, hread, rfl⟩)⟩

/-- R187: the codes in the order of the tests. -/
theorem code_powertrain (b : Byte) :
    (powertrain b).code = if 10 < b.toNat then 1 else if b.toNat = 0 then 2 else if b.toNat = 5 then 3 else 0 := by
  unfold powertrain
  split_ifs <;> rfl

/-- Settles O51: the codes of the classes, in the order of their tests. -/
theorem ptrainClassifiesTheFuelCapacity : Obligations.PtrainClassifiesTheFuelCapacity := by
  intro s f hm hs hf
  have hread : readField params s .fuelCapacity 0 = .ok f := readField_of_holdsWord hm rfl hf
  rw [← code_powertrain]
  exact exec_of_body_done (i := .ptrain) (ptrainBody_done_iff.2 ⟨hs, f, hread, rfl⟩)

/-- R199: what FLAG answers of the mask. -/
theorem flagQuery_result (m : Half) (n : Int) (max : Nat) :
    (if flagQuery m n max then 1 else 0 : Word) =
      if n < 0 ∨ (max : Int) < n then 0
      else if n = 0 then (if m = 0 then 1 else 0)
      else if m.getLsbD (n - 1).toNat then 1 else 0 := by
  unfold flagQuery
  split
  · rfl
  · split
    · simp
    · rfl

/-- Settles O56: FLAG answers `flagQuery` of the mask FRAME holds. -/
theorem flagQueriesTheMask : Obligations.FlagQueriesTheMask := by
  intro s idx m hm hs hmask
  obtain ⟨w, hread, rfl⟩ := readField_flags hm hmask
  rw [← flagQuery_result]
  exact exec_of_body_done (i := .flag idx) (flagBody_done_iff.2 ⟨hs, w, hread, rfl⟩)

/-! ### TSPD and TSLIP -/

/-- R190: outside 0..3 the tire speed is +0.0. -/
theorem tireSpeed_outside {i : Int} (h : i < 0 ∨ 3 < i) : tireSpeed params s i = .ok 0 := if_pos h

/-- R190: at a wheel the tire speed is that of the wheel's two words. -/
theorem tireSpeed_wheel {i : Int} {r w : Word} (hm : s.frame.wf) (hlo : 0 ≤ i) (hhi : i ≤ 3)
    (hr : holdsWord s.frame (0xB4 + 4 * i.toNat) r) (hw : holdsWord s.frame (0xA4 + 4 * i.toNat) w) :
    tireSpeed params s i = .ok (tireSpeedOf binary32 s.draw r w) := by
  have hradius : readField params s .tireRadius i.toNat = .ok r := readField_of_holdsWord hm rfl hr
  have hrate : readField params s .wheelAngularRate i.toNat = .ok w := readField_of_holdsWord hm rfl hw
  rw [tireSpeed, if_neg (by omega), hradius, hrate]
  rfl

theorem exec_tspd_of_tireSpeed {i : Int} {w : Word} (hs : s.fValid = true) (h : tireSpeed params s i = .ok w) :
    exec (.tspd i) s = .next (((s.setRes w).advanceDraw 2).setErr .none) :=
  exec_of_body_done (i := .tspd i) (tspdBody_done_iff.2 ⟨hs, w, h, rfl⟩)

/-- Settles O52: TSPD answers the tire speed, at a wheel and outside 0..3. -/
theorem tspdGivesTheTireSpeed : Obligations.TspdGivesTheTireSpeed :=
  fun _ _ hm hs => ⟨fun _ _ hlo hhi hr hw => exec_tspd_of_tireSpeed hs (tireSpeed_wheel hm hlo hhi hr hw),
    fun h => exec_tspd_of_tireSpeed hs (tireSpeed_outside h)⟩

/-- R181: FABS32 clears the sign bit. -/
theorem getLsbD_f32Abs (a : Word) : (f32Abs a).getLsbD 31 = false := by
  rw [f32Abs, BitVec.getLsbD_and]
  exact Bool.and_false _

/-- R190: the tire speed is +0.0 or an absolute value. -/
theorem sign_of_tireSpeed {i : Int} {x : Word} (h : tireSpeed params s i = .ok x) : x.getLsbD 31 = false := by
  unfold tireSpeed at h
  split at h
  case isTrue =>
    cases h
    rfl
  case isFalse =>
    cases hr : readField params s .tireRadius i.toNat with
    | error f => cases hr ▸ h
    | ok r =>
      cases hw : readField params s .wheelAngularRate i.toNat with
      | error f =>
        rw [hr, hw] at h
        cases h
      | ok w =>
        rw [hr, hw] at h
        cases h
        exact getLsbD_f32Abs _

/-- Settles O53: a TSPD that leaves None is done, and its result is a tire speed. -/
theorem tspdIsNeverNegative : Obligations.TspdIsNeverNegative := by
  intro s t idx h he
  rw [exec_eq_finish] at h
  obtain ⟨u, hu, rfl⟩ | ⟨e, u, hu, rfl⟩ := Body.finish_eq_next_iff.1 h
  · obtain ⟨-, x, hx, rfl⟩ := tspdBody_done_iff.1 hu
    exact sign_of_tireSpeed hx
  · obtain ⟨-, rfl, -⟩ := tspdBody_raised_iff.1 hu
    cases he

/-- R181: FISZERO32 holds of the two zeros. -/
theorem f32IsZero_iff (a : Word) : f32IsZero a = true ↔ a = 0x00000000 ∨ a = 0x80000000 := by
  have ha := a.isLt
  have hand : (a &&& 0x7FFFFFFF).toNat = a.toNat % 2 ^ 31 := Nat.and_two_pow_sub_one_eq_mod a.toNat 31
  rw [f32IsZero, beq_iff_eq, ← BitVec.toNat_inj, ← BitVec.toNat_inj, ← BitVec.toNat_inj, hand]
  change a.toNat % 2 ^ 31 = 0 ↔ a.toNat = 0 ∨ a.toNat = 2 ^ 31
  omega

/-- R193: the guard at speed zero. -/
theorem slipRatio_zero {i : Int} {v : Word} (hv : readField params s .speed 0 = .ok v) (h : f32IsZero v = true) :
    slipRatio params s i = .ok 0 := by
  have hzero : params.numerics.fIsZero32 v = true := h
  simp [slipRatio, hv, hzero, bind, Except.bind, pure, Except.pure]

/-- R193: the quotient at any other speed. -/
theorem slipRatio_quotient {i : Int} {v t : Word} (hv : readField params s .speed 0 = .ok v) (h : f32IsZero v = false)
    (ht : tireSpeed params s i = .ok t) : slipRatio params s i = .ok (slipOf binary32 (s.draw + 2) t v) := by
  have hzero : params.numerics.fIsZero32 v = false := h
  simp only [slipRatio, hv, ht, hzero, bind, Except.bind, pure, Except.pure]
  rfl

theorem exec_tslip_of_slipRatio {i : Int} {w : Word} (hs : s.fValid = true) (h : slipRatio params s i = .ok w) :
    exec (.tslip i) s = .next (((s.setRes w).advanceDraw 4).setErr .none) :=
  exec_of_body_done (i := .tslip i) (tslipBody_done_iff.2 ⟨hs, w, h, rfl⟩)

/-- Settles O54: TSLIP answers the slip ratio, behind the guard at speed zero. -/
theorem tslipGivesTheSlipRatio : Obligations.TslipGivesTheSlipRatio := by
  intro s idx v hm hs hspeed
  have hv : readField params s .speed 0 = .ok v := readField_of_holdsWord hm rfl hspeed
  have hnonzero (h0 : v ≠ 0x00000000) (h1 : v ≠ 0x80000000) : f32IsZero v = false :=
    Bool.eq_false_iff.2 fun h => ((f32IsZero_iff v).1 h).elim h0 h1
  refine ⟨fun h => ?zero, fun h0 h1 r w hlo hhi hr hw => ?wheel, fun h0 h1 hi => ?outside⟩
  case zero => exact exec_tslip_of_slipRatio hs (slipRatio_zero hv ((f32IsZero_iff v).2 h))
  case wheel =>
    exact exec_tslip_of_slipRatio hs (slipRatio_quotient hv (hnonzero h0 h1) (tireSpeed_wheel hm hlo hhi hr hw))
  case outside => exact exec_tslip_of_slipRatio hs (slipRatio_quotient hv (hnonzero h0 h1) (tireSpeed_outside hi))

end Sys2Proof.Machine
end

section
/-! PROOF. Patterns and their values (44_accessors.md R181): the fields of a packed pattern, the finite values as integers
times powers of two, truncation, and the special operands of multiplication and division. -/

namespace Sys2Proof.Machine

/-! ### The fields of a pattern -/

theorem f32Exp_eq (a : Word) : f32Exp a = a.toNat / 2 ^ 23 % 2 ^ 8 := by
  rw [f32Exp, BitVec.extractLsb'_toNat, Nat.shiftRight_eq_div_pow]

theorem f32Frac_eq (a : Word) : f32Frac a = a.toNat % 2 ^ 23 := by
  rw [f32Frac, BitVec.extractLsb'_toNat, Nat.shiftRight_zero]

theorem getLsbD_eq_div (a : Word) (i : Nat) : a.getLsbD i = decide (a.toNat / 2 ^ i % 2 = 1) := by
  rw [BitVec.getLsbD, Nat.testBit_eq_decide_div_mod_eq]

theorem toNat_f32Pack (neg : Bool) {low : Nat} (h : low < 2 ^ 31) :
    (f32Pack neg low).toNat = (if neg then 2 ^ 31 else 0) + low := by
  rw [f32Pack, BitVec.toNat_ofNat, Nat.mod_eq_of_lt]
  split <;> omega

section
variable (neg : Bool) {low : Nat} (h : low < 2 ^ 31)
include h

theorem f32Exp_f32Pack : f32Exp (f32Pack neg low) = low / 2 ^ 23 := by
  rw [f32Exp_eq, toNat_f32Pack neg h]
  split <;> omega

theorem f32Frac_f32Pack : f32Frac (f32Pack neg low) = low % 2 ^ 23 := by
  rw [f32Frac_eq, toNat_f32Pack neg h]
  split <;> omega

theorem f32Sign_f32Pack : f32Sign (f32Pack neg low) = neg := by
  rw [f32Sign, getLsbD_eq_div, toNat_f32Pack neg h]
  cases neg with
  | true =>
    rw [decide_eq_true_iff, if_pos rfl]
    omega
  | false =>
    rw [decide_eq_false_iff_not, if_neg Bool.false_ne_true]
    omega

theorem getLsbD_f32Pack_quiet : (f32Pack neg low).getLsbD 22 = decide (low / 2 ^ 22 % 2 = 1) := by
  rw [getLsbD_eq_div, toNat_f32Pack neg h]
  congr 1
  split
  all_goals
    rw [eq_iff_iff]
    omega

end

/-! ### Kinds of patterns -/

theorem f32Finite_iff (a : Word) : f32Finite a ↔ f32IsNaN a = false ∧ f32IsInf a = false := by
  simp only [f32Finite, f32IsNaN, f32IsInf, decide_eq_false_iff_not]
  tauto

theorem not_isNaN_of_isInf {a : Word} (h : f32IsInf a = true) : f32IsNaN a = false := by
  simp_all [f32IsNaN, f32IsInf]

theorem isInf_f32Pack_infLow (neg : Bool) : f32IsInf (f32Pack neg f32InfLow) = true := by
  rw [f32IsInf, f32Exp_f32Pack neg (by decide), f32Frac_f32Pack neg (by decide)]
  decide

/-- U6: the free values are quiet NaNs, whatever their sign and payload. -/
theorem f32QuietNaN_f32FreeNaN (p : BitVec 23) : f32QuietNaN (f32FreeNaN p) := by
  have hp : (p.extractLsb' 0 22).toNat < 2 ^ 22 := BitVec.isLt _
  have hlow : 0x7FC00000 + (p.extractLsb' 0 22).toNat < 2 ^ 31 := by omega
  refine ⟨?_, ?_⟩
  · rw [f32FreeNaN, f32Exp_f32Pack _ hlow]
    omega
  · rw [f32FreeNaN, getLsbD_f32Pack_quiet _ hlow, decide_eq_true_iff]
    omega

theorem f32Sig_lt (a : Word) : f32Sig a < 2 ^ 24 := by
  have hfrac := f32Frac_eq a
  unfold f32Sig
  split <;> omega

theorem f32Scale_ge (a : Word) : -149 ≤ f32Scale a := by
  unfold f32Scale
  split <;> omega

theorem f32Sig_ne_zero_of_isInf {a : Word} (h : f32IsInf a = true) : f32Sig a ≠ 0 := by
  obtain ⟨hexp, -⟩ := of_decide_eq_true h
  simp [f32Sig, hexp]

/-- `x` with the sign of a pattern. -/
def withSign (neg : Bool) (x : ℚ) : ℚ := if neg then -x else x

@[simp] theorem withSign_true (x : ℚ) : withSign true x = -x := rfl

@[simp] theorem withSign_false (x : ℚ) : withSign false x = x := rfl

theorem f32Value_eq_withSign (a : Word) : f32Value a = withSign (f32Sign a) (f32Sig a * (2 : ℚ) ^ f32Scale a) := by
  unfold f32Value withSign
  split <;> ring

theorem abs_withSign (neg : Bool) (x : ℚ) : |withSign neg x| = |x| := by
  cases neg <;> simp

theorem abs_f32Value (a : Word) : |f32Value a| = f32Sig a * (2 : ℚ) ^ f32Scale a := by
  rw [f32Value_eq_withSign, abs_withSign, abs_of_nonneg (by positivity)]

theorem f32Value_eq_withSign_abs (a : Word) : f32Value a = withSign (f32Sign a) |f32Value a| := by
  rw [abs_f32Value, f32Value_eq_withSign]

theorem f32Value_eq_zero_iff (a : Word) : f32Value a = 0 ↔ f32Sig a = 0 := by
  have hpow : (2 : ℚ) ^ f32Scale a ≠ 0 := by positivity
  rw [← abs_eq_zero, abs_f32Value, mul_eq_zero_iff_right hpow, Nat.cast_eq_zero]

theorem f32Sig_ne_zero_of_value {b : Word} (hnan : f32IsNaN b = false) (hb : f32Finite b → f32Value b ≠ 0) :
    f32Sig b ≠ 0 := by
  cases hinf : f32IsInf b with
  | true => exact f32Sig_ne_zero_of_isInf hinf
  | false => exact fun h => hb ((f32Finite_iff b).2 ⟨hnan, hinf⟩) ((f32Value_eq_zero_iff b).2 h)

/-! ### The cases of multiplication and division -/

section
variable (n : Nat) {a b : Word}

theorem f32Mul_nan (h : f32IsNaN a = true ∨ f32IsNaN b = true) :
    f32Mul n a b = f32FreeNaN (Config.freeMulNaN n a b) := by
  simp [f32Mul, h]

theorem f32Mul_inf_zero (ha : f32IsInf a = true) (hb : f32Finite b) (hzero : f32Sig b = 0) :
    f32Mul n a b = f32FreeNaN (Config.freeMulNaN n a b) := by
  simp [f32Mul, ha, not_isNaN_of_isInf ha, (f32Finite_iff b).1 hb, hzero]

theorem f32Mul_zero_inf (ha : f32Finite a) (hzero : f32Sig a = 0) (hb : f32IsInf b = true) :
    f32Mul n a b = f32FreeNaN (Config.freeMulNaN n a b) := by
  simp [f32Mul, hb, not_isNaN_of_isInf hb, (f32Finite_iff a).1 ha, hzero]

theorem f32Mul_inf_left (ha : f32IsInf a = true) (hb : f32IsNaN b = false) (hsig : f32Sig b ≠ 0) :
    f32Mul n a b = f32Pack (f32Sign a ^^ f32Sign b) f32InfLow := by
  simp [f32Mul, ha, not_isNaN_of_isInf ha, hb, hsig]

theorem f32Mul_inf_right (ha : f32IsNaN a = false) (hsig : f32Sig a ≠ 0) (hb : f32IsInf b = true) :
    f32Mul n a b = f32Pack (f32Sign a ^^ f32Sign b) f32InfLow := by
  have hnan := not_isNaN_of_isInf hb
  cases hinf : f32IsInf a with
  | true => exact f32Mul_inf_left n hinf hnan (f32Sig_ne_zero_of_isInf hb)
  | false => simp [f32Mul, ha, hinf, hb, hnan, hsig]

theorem f32Mul_finite (ha : f32Finite a) (hb : f32Finite b) :
    f32Mul n a b = f32Round (f32Sign a ^^ f32Sign b) (f32Sig a * f32Sig b) (f32Scale a + f32Scale b) := by
  simp [f32Mul, (f32Finite_iff a).1 ha, (f32Finite_iff b).1 hb]

theorem f32Div_nan (h : f32IsNaN a = true ∨ f32IsNaN b = true) :
    f32Div n a b = f32FreeNaN (Config.freeDivNaN n a b) := by
  simp [f32Div, h]

theorem f32Div_inf_inf (ha : f32IsInf a = true) (hb : f32IsInf b = true) :
    f32Div n a b = f32FreeNaN (Config.freeDivNaN n a b) := by
  simp [f32Div, ha, hb, not_isNaN_of_isInf ha, not_isNaN_of_isInf hb]

theorem f32Div_inf_left (ha : f32IsInf a = true) (hb : f32Finite b) :
    f32Div n a b = f32Pack (f32Sign a ^^ f32Sign b) f32InfLow := by
  simp [f32Div, ha, not_isNaN_of_isInf ha, (f32Finite_iff b).1 hb]

theorem f32Div_inf_right (ha : f32Finite a) (hb : f32IsInf b = true) :
    f32Div n a b = f32Pack (f32Sign a ^^ f32Sign b) 0 := by
  simp [f32Div, hb, not_isNaN_of_isInf hb, (f32Finite_iff a).1 ha]

theorem f32Div_zero_zero (ha : f32Finite a) (hza : f32Sig a = 0) (hb : f32Finite b) (hzb : f32Sig b = 0) :
    f32Div n a b = f32FreeNaN (Config.freeDivNaN n a b) := by
  simp [f32Div, (f32Finite_iff a).1 ha, (f32Finite_iff b).1 hb, hza, hzb]

theorem f32Div_zero_right (ha : f32Finite a) (hza : f32Sig a ≠ 0) (hb : f32Finite b) (hzb : f32Sig b = 0) :
    f32Div n a b = f32Pack (f32Sign a ^^ f32Sign b) f32InfLow := by
  simp [f32Div, (f32Finite_iff a).1 ha, (f32Finite_iff b).1 hb, hza, hzb]

/-- The quotient with its sticky bit, as an integer that `f32Div` rounds (R181). -/
def stickyQuotient (x y : Nat) : Nat := 2 * (x / y) + if x % y = 0 then 0 else 1

theorem f32Div_finite (ha : f32Finite a) (hb : f32Finite b) (hzb : f32Sig b ≠ 0) :
    f32Div n a b = f32Round (f32Sign a ^^ f32Sign b) (stickyQuotient (f32Sig a * 2 ^ divGuard) (f32Sig b))
      (f32Scale a - f32Scale b - (divGuard : Int) - 1) := by
  simp [f32Div, (f32Finite_iff a).1 ha, (f32Finite_iff b).1 hb, hzb, stickyQuotient]

end

/-- Settles O59: the cases of both operations, zero and non-zero operands told apart by their significand. -/
theorem specialOperandsOfMultiplicationAndDivision : Obligations.SpecialOperandsOfMultiplicationAndDivision := by
  intro n a b
  have hzero (c : Word) := (f32Value_eq_zero_iff c).1
  refine ⟨fun h => ⟨?_, ?_⟩, fun ha hb hzb => ⟨?_, ?_⟩, fun ha hza hb hzb => ?_, fun ha hb => ?_,
    fun ha hnan hb => ⟨?_, ?_⟩, fun ha hb => ?_, fun ha hza hb hzb => ?_, fun ha hb => ?_⟩
  · exact f32Mul_nan n h ▸ f32QuietNaN_f32FreeNaN _
  · exact f32Div_nan n h ▸ f32QuietNaN_f32FreeNaN _
  · exact f32Mul_inf_zero n ha hb (hzero b hzb) ▸ f32QuietNaN_f32FreeNaN _
  · exact f32Mul_zero_inf n hb (hzero b hzb) ha ▸ f32QuietNaN_f32FreeNaN _
  · exact f32Div_zero_zero n ha (hzero a hza) hb (hzero b hzb) ▸ f32QuietNaN_f32FreeNaN _
  · exact f32Div_inf_inf n ha hb ▸ f32QuietNaN_f32FreeNaN _
  · exact f32Mul_inf_left n ha hnan (f32Sig_ne_zero_of_value hnan hb)
  · exact Bool.xor_comm _ _ ▸ f32Mul_inf_right n hnan (f32Sig_ne_zero_of_value hnan hb) ha
  · exact f32Div_inf_left n ha hb
  · exact f32Div_zero_right n ha (mt (f32Value_eq_zero_iff a).2 hza) hb (hzero b hzb)
  · exact f32Div_inf_right n ha hb

/-! ### Truncation -/

/-- The integer part of a finite pattern's magnitude. -/
theorem floor_abs_f32Value (a : Word) : ⌊|f32Value a|⌋₊ = f32TruncAbs a := by
  rw [abs_f32Value, f32TruncAbs]
  split
  case isTrue h =>
    obtain ⟨k, hk⟩ := Int.eq_ofNat_of_zero_le h
    rw [hk, zpow_natCast, Int.toNat_natCast]
    exact_mod_cast Nat.floor_natCast (f32Sig a * 2 ^ k)
  case isFalse h =>
    obtain ⟨k, hk⟩ := Int.eq_ofNat_of_zero_le (a := -f32Scale a) (by omega)
    rw [hk, Int.toNat_natCast, ← neg_neg (f32Scale a), hk, zpow_neg, zpow_natCast, ← div_eq_mul_inv]
    exact_mod_cast Nat.floor_div_eq_div (K := ℚ) (f32Sig a) (2 ^ k)

/-- Settles O60: a negative value above -1 has integer part 0, and a value below 256 one that fits a byte. -/
theorem truncationToAByte : Obligations.TruncationToAByte := by
  intro n a ha hlo hhi
  rw [floor_abs_f32Value]
  have hfloor := floor_abs_f32Value a
  have hrange : f32TruncAbs a = 0 ∨ (f32Sign a = false ∧ f32TruncAbs a ≤ 255) := by
    cases hsign : f32Sign a with
    | true =>
      have hvalue : f32Value a = -|f32Value a| := by
        simpa only [hsign, withSign_true] using f32Value_eq_withSign_abs a
      refine .inl (hfloor ▸ Nat.floor_eq_zero.2 ?_)
      linarith
    | false =>
      have hvalue : f32Value a = |f32Value a| := by
        simpa only [hsign, withSign_false] using f32Value_eq_withSign_abs a
      refine .inr ⟨rfl, Nat.lt_succ_iff.1 (hfloor ▸ (Nat.floor_lt (abs_nonneg _)).2 ?_)⟩
      exact hvalue ▸ hhi
  have hbyte : f32TruncAbs a < 2 ^ 8 := by omega
  rw [f32ToU8, if_pos ⟨ha, hrange⟩, BitVec.toNat_ofNat, Nat.mod_eq_of_lt hbyte]

end Sys2Proof.Machine
end

section
/-! PROOF. What rounding gives (44_accessors.md R181): `RoundsTo x k sig` says that `sig` is the magnitude `x` in units of
`ulpOf k`, rounded to an integer with ties to even. From that the packed pattern is the nearest finite one below the
overflow threshold, and an infinity from it on. -/

namespace Sys2Proof.Machine

/-- The unit in the last place of the patterns with exponent field `k + 1`, and for `k = 0` of the subnormal ones. -/
def ulpOf (k : Nat) : ℚ := 2 ^ ((k : Int) - 149)

theorem ulpOf_pos (k : Nat) : 0 < ulpOf k := by
  unfold ulpOf
  positivity

theorem ulpOf_add (k d : Nat) : ulpOf (k + d) = 2 ^ d * ulpOf k := by
  unfold ulpOf
  rw [← zpow_natCast, ← zpow_add₀ two_ne_zero]
  congr 1
  push_cast
  ring

theorem ulpOf_le {j k : Nat} (h : j ≤ k) : ulpOf j ≤ ulpOf k := by
  unfold ulpOf
  exact zpow_le_zpow_right₀ one_le_two (by omega)

theorem ulpOf_ceiling : ulpOf 253 = 2 ^ 104 := by
  norm_num [ulpOf]

/-- `n` is `y` rounded to an integer, ties to even. -/
structure NearestEvenInt (n : Nat) (y : ℚ) : Prop where
  dist_le : |(n : ℚ) - y| ≤ 1 / 2
  even_of_tie : |(n : ℚ) - y| = 1 / 2 → n % 2 = 0

/-- No integer is nearer, and where another is as near, `n` is even. -/
theorem NearestEvenInt.nearest {n : Nat} {y : ℚ} (h : NearestEvenInt n y) (N : Int) :
    |(n : ℚ) - y| ≤ |(N : ℚ) - y| ∧ (|(n : ℚ) - y| = |(N : ℚ) - y| → (N : ℚ) ≠ n → n % 2 = 0) := by
  obtain ⟨hle, htie⟩ := h
  by_cases hN : N = n
  · subst hN
    simp
  · have hdist : (1 : ℚ) ≤ |(N : ℚ) - n| := by
      have hone : 1 ≤ |N - n| := Int.one_le_abs (sub_ne_zero.2 hN)
      exact_mod_cast hone
    have htri : |(N : ℚ) - n| ≤ |(N : ℚ) - y| + |(n : ℚ) - y| := by
      simpa only [abs_sub_comm (n : ℚ) y] using abs_sub_le (N : ℚ) y n
    exact ⟨by linarith, fun heq _ => htie (by linarith)⟩

/-- Rounding stays below an even integer exactly below the tie under it: the tie goes to the even one. -/
theorem NearestEvenInt.lt_iff_of_even {n N : Nat} {y : ℚ} (h : NearestEvenInt n y) (hN : N % 2 = 0) :
    n < N ↔ y < N - 1 / 2 := by
  obtain ⟨hlo, hhi⟩ := abs_le.1 h.dist_le
  constructor
  · intro hlt
    have hcast : (n : ℚ) + 1 ≤ N := by exact_mod_cast hlt
    refine lt_of_le_of_ne (by linarith) fun htie => ?_
    have hup : (N : ℚ) ≤ n + 1 := by linarith
    have hsucc : N = n + 1 := le_antisymm (by exact_mod_cast hup) hlt
    have hdist : (n : ℚ) - y = -(1 / 2) := by
      rw [htie, hsucc]
      push_cast
      ring
    have heven := h.even_of_tie (by rw [hdist, abs_neg, abs_of_pos one_half_pos])
    omega
  · intro hy
    have hlt : (n : ℚ) < N := by linarith
    exact_mod_cast hlt

/-- The magnitude `x` lies among the patterns whose unit in the last place is `ulpOf k`, and `sig` is `x` in these
units, rounded. -/
structure RoundsTo (x : ℚ) (k sig : Nat) : Prop where
  nearest : NearestEvenInt sig (x / ulpOf k)
  lt : x < 2 ^ 24 * ulpOf k
  ge : k = 0 ∨ 2 ^ 23 * ulpOf k ≤ x

/-- The value of a pattern is an integer below 2^24 in magnitude times a power of two. -/
theorem f32Value_eq_mul_ulpOf (c : Word) : ∃ (N : Int) (j : Nat), |(N : ℚ)| < 2 ^ 24 ∧ f32Value c = N * ulpOf j := by
  obtain ⟨j, hj⟩ := Int.eq_ofNat_of_zero_le (a := f32Scale c + 149) (by have := f32Scale_ge c; omega)
  have hscale : f32Scale c = (j : Int) - 149 := by omega
  have hsig : (f32Sig c : ℚ) < 2 ^ 24 := by exact_mod_cast f32Sig_lt c
  cases hsign : f32Sign c with
  | true =>
    refine ⟨-f32Sig c, j, ?_, ?_⟩
    · simpa using hsig
    · simp [f32Value_eq_withSign, hsign, hscale, ulpOf]
  | false =>
    refine ⟨f32Sig c, j, ?_, ?_⟩
    · simpa using hsig
    · simp [f32Value_eq_withSign, hsign, hscale, ulpOf]

section
variable {x : ℚ} {k sig : Nat} (h : RoundsTo x k sig)
include h

/-- No integer multiple of the unit is nearer to `x` than the rounded one. -/
theorem RoundsTo.nearest_multiple (N : Int) :
    |sig * ulpOf k - x| ≤ |N * ulpOf k - x| ∧
      (|sig * ulpOf k - x| = |N * ulpOf k - x| → N * ulpOf k ≠ sig * ulpOf k → sig % 2 = 0) := by
  have hu := ulpOf_pos k
  have hscale (z : ℚ) : |z * ulpOf k - x| = |z - x / ulpOf k| * ulpOf k := by
    rw [← abs_of_pos hu, ← abs_mul, abs_of_pos hu, sub_mul, div_mul_cancel₀ x hu.ne']
  obtain ⟨hle, htie⟩ := h.nearest.nearest N
  rw [hscale, hscale]
  refine ⟨mul_le_mul_of_nonneg_right hle hu.le, fun heq hne => htie (mul_right_cancel₀ hu.ne' heq) ?_⟩
  rintro hN
  exact hne (by rw [hN])

/-- No pattern's value is nearer to `x`: a coarse one is a multiple of the unit, and a finer one lies on the far side
of the least multiple in reach. -/
theorem RoundsTo.nearest_value {N : Int} (hN : |(N : ℚ)| < 2 ^ 24) (j : Nat) :
    |sig * ulpOf k - x| ≤ |N * ulpOf j - x| ∧
      (|sig * ulpOf k - x| = |N * ulpOf j - x| → N * ulpOf j ≠ sig * ulpOf k → sig % 2 = 0) := by
  rcases Nat.lt_or_ge j k with hjk | hkj
  · have hpos := ulpOf_pos j
    have hx : 2 ^ 23 * ulpOf k ≤ x := h.ge.resolve_left (by omega)
    have hfine : 2 ^ 24 * ulpOf j ≤ 2 ^ 23 * ulpOf k := by
      have hstep := ulpOf_le (Nat.succ_le_of_lt hjk)
      rw [Nat.succ_eq_add_one, ulpOf_add] at hstep
      linarith
    have hvalue : N * ulpOf j < 2 ^ 24 * ulpOf j := mul_lt_mul_of_pos_right (abs_lt.1 hN).2 hpos
    have hcast : ((2 ^ 23 : Int) : ℚ) = 2 ^ 23 := by norm_num
    have hmul := (h.nearest_multiple (2 ^ 23)).1
    rw [hcast] at hmul
    have hlt : |sig * ulpOf k - x| < |N * ulpOf j - x| := by
      rw [abs_of_nonpos (by linarith : 2 ^ 23 * ulpOf k - x ≤ 0)] at hmul
      rw [abs_of_neg (by linarith : N * ulpOf j - x < 0)]
      linarith
    exact ⟨hlt.le, fun heq => absurd heq hlt.ne⟩
  · obtain ⟨d, rfl⟩ := Nat.exists_eq_add_of_le hkj
    have hmul := h.nearest_multiple (N * 2 ^ d)
    push_cast at hmul
    rwa [mul_assoc, ← ulpOf_add] at hmul

theorem RoundsTo.sig_le : sig ≤ 2 ^ 24 := by
  have hdist := (abs_le.1 h.nearest.dist_le).2
  have hy : x / ulpOf k < 2 ^ 24 := (div_lt_iff₀ (ulpOf_pos k)).2 h.lt
  have hsig : (sig : ℚ) < (2 ^ 24 + 1 : ℕ) := by
    push_cast
    linarith
  exact Nat.lt_succ_iff.1 (by exact_mod_cast hsig)

theorem RoundsTo.sig_ge : k = 0 ∨ 2 ^ 23 ≤ sig := by
  refine h.ge.imp_right fun hx => ?_
  have hdist := (abs_le.1 h.nearest.dist_le).1
  have hy : 2 ^ 23 ≤ x / ulpOf k := (le_div_iff₀ (ulpOf_pos k)).2 hx
  have hsig : ((2 ^ 23 : ℕ) : ℚ) < (sig + 1 : ℕ) := by
    push_cast
    linarith
  exact Nat.lt_succ_iff.1 (by exact_mod_cast hsig)

/-- The 31 bits reach those of infinity exactly from the overflow threshold on: at the top exponent the threshold is the
tie between the largest significand, which is odd, and 2^24. -/
theorem RoundsTo.lt_infLow_iff : k * 2 ^ 23 + sig < f32InfLow ↔ x < f32Overflow := by
  have hle := h.sig_le
  have hge := h.sig_ge
  have hinf : f32InfLow = 255 * 2 ^ 23 := rfl
  have hover : f32Overflow = (2 ^ 24 - 1 / 2) * ulpOf 253 := by
    rw [ulpOf_ceiling, f32Overflow]
    norm_num
  have hpos := ulpOf_pos 253
  rcases Nat.lt_trichotomy k 253 with hk | rfl | hk
  · refine iff_of_true (by omega) (h.lt.trans ?_)
    have hstep : ulpOf (k + 1) ≤ ulpOf 253 := ulpOf_le hk
    rw [ulpOf_add] at hstep
    rw [hover]
    linarith
  · have heven := h.nearest.lt_iff_of_even (N := 2 ^ 24) rfl
    rw [Nat.cast_pow, Nat.cast_ofNat] at heven
    rw [hover, ← div_lt_iff₀ hpos, ← heven]
    omega
  · refine iff_of_false (by omega) (not_lt.2 ?_)
    have hstep : ulpOf (253 + 1) ≤ ulpOf k := ulpOf_le hk
    rw [ulpOf_add] at hstep
    have hx := h.ge.resolve_left (by omega)
    rw [hover]
    linarith

end

end Sys2Proof.Machine
end

section
/-! PROOF. FMUL32 and FDIV32 round to nearest even (44_accessors.md R181): the pattern `f32Round` packs, the integer it
rounds, and the product and the quotient that integer stands for. -/

namespace Sys2Proof.Machine

/-! ### The packed pattern -/

section
variable (neg : Bool) {k sig : Nat} (hle : sig ≤ 2 ^ 24) (hge : k = 0 ∨ 2 ^ 23 ≤ sig) (hlow : k * 2 ^ 23 + sig < f32InfLow)
include hle hge hlow

/-- The packed pattern is finite: a significand of 2^24 carries into the exponent field, one below 2^23 is subnormal. -/
theorem f32Pack_rounded :
    f32Finite (f32Pack neg (k * 2 ^ 23 + sig)) ∧
      f32Value (f32Pack neg (k * 2 ^ 23 + sig)) = withSign neg (sig * ulpOf k) ∧
      (sig % 2 = 0 → f32Sig (f32Pack neg (k * 2 ^ 23 + sig)) % 2 = 0) := by
  have hinf : f32InfLow = 255 * 2 ^ 23 := rfl
  have hlt : k * 2 ^ 23 + sig < 2 ^ 31 := by omega
  have hexp := f32Exp_f32Pack neg hlt
  have hfrac := f32Frac_f32Pack neg hlt
  have hsign := f32Sign_f32Pack neg hlt
  generalize f32Pack neg (k * 2 ^ 23 + sig) = r at hexp hfrac hsign
  refine ⟨by rw [f32Finite]; omega, ?_⟩
  rw [f32Value_eq_withSign, hsign]
  rcases Nat.lt_or_ge sig (2 ^ 23) with hsub | hnormal
  · obtain rfl := hge.resolve_right (by omega)
    have hexp0 : f32Exp r = 0 := by omega
    have hsig : f32Sig r = sig := by rw [f32Sig, if_pos hexp0]; omega
    have hscale : f32Scale r = ((0 : Nat) : Int) - 149 := by rw [f32Scale, if_pos hexp0]; rfl
    rw [hsig, hscale]
    exact ⟨rfl, id⟩
  · rcases Nat.lt_or_ge sig (2 ^ 24) with hnocarry | hcarry
    · have hexp1 : f32Exp r = k + 1 := by omega
      have hsig : f32Sig r = sig := by rw [f32Sig, if_neg (by omega)]; omega
      have hscale : f32Scale r = (k : Int) - 149 := by rw [f32Scale, if_neg (by omega)]; omega
      rw [hsig, hscale]
      exact ⟨rfl, id⟩
    · obtain rfl := Nat.le_antisymm hle hcarry
      have hexp2 : f32Exp r = k + 2 := by omega
      have hsig : f32Sig r = 2 ^ 23 := by rw [f32Sig, if_neg (by omega)]; omega
      have hscale : f32Scale r = ((k + 1 : Nat) : Int) - 149 := by rw [f32Scale, if_neg (by omega)]; omega
      rw [hsig, hscale, ← ulpOf, ulpOf_add]
      refine ⟨congrArg (withSign neg) ?_, fun _ => rfl⟩
      push_cast
      ring

end

theorem abs_withSign_sub (neg : Bool) (x y : ℚ) : |withSign neg x - withSign neg y| = |x - y| := by
  cases neg
  · rfl
  · rw [withSign_true, withSign_true, neg_sub_neg, abs_sub_comm]

theorem withSign_withSign (neg : Bool) (x : ℚ) : withSign neg (withSign neg x) = x := by
  cases neg <;> simp

/-- The result of rounding `x` with the sign `neg`: its sign, and the nearest pattern or an infinity (R181). -/
structure RoundedResult (r : Word) (neg : Bool) (x : ℚ) : Prop where
  sign : f32Sign r = neg
  nearest : |x| < f32Overflow → f32NearestEven r (withSign neg x)
  overflow : f32Overflow ≤ |x| → f32IsInf r = true

theorem RoundsTo.roundedResult (neg : Bool) {x : ℚ} {k sig : Nat} (hx : 0 ≤ x) (h : RoundsTo x k sig) :
    RoundedResult (f32Pack neg (min f32InfLow (k * 2 ^ 23 + sig))) neg x where
  sign := f32Sign_f32Pack neg (Nat.lt_of_le_of_lt (Nat.min_le_left ..) (by decide))
  nearest hlt := by
    have hlow := h.lt_infLow_iff.2 (abs_of_nonneg hx ▸ hlt)
    rw [Nat.min_eq_right hlow.le]
    obtain ⟨hfin, hvalue, heven⟩ := f32Pack_rounded neg h.sig_le h.sig_ge hlow
    refine ⟨hfin, fun c _ => ?_⟩
    obtain ⟨N, j, hN, hc⟩ := f32Value_eq_mul_ulpOf c
    have hN' : |((if neg then -N else N : Int) : ℚ)| < 2 ^ 24 := by cases neg <;> simpa using hN
    have hc' : ((if neg then -N else N : Int) : ℚ) * ulpOf j = withSign neg (f32Value c) := by
      cases neg <;> simp [hc]
    obtain ⟨hnear, htie⟩ := h.nearest_value hN' j
    rw [hc', ← abs_withSign_sub neg (sig * ulpOf k), ← abs_withSign_sub neg (withSign neg (f32Value c)),
      withSign_withSign] at hnear htie
    rw [hvalue]
    refine ⟨hnear, fun heq hne => heven (htie heq fun h => hne ?_)⟩
    rw [← h, withSign_withSign]
  overflow hge := by
    have hlow := mt h.lt_infLow_iff.1 (not_lt.2 (abs_of_nonneg hx ▸ hge))
    rw [Nat.min_eq_left (Nat.not_lt.1 hlow)]
    exact isInf_f32Pack_infLow neg

/-! ### Rounding an integer times a power of two -/

/-- `roundShift` in integers: twice the error is at most `2 ^ d`, and a tie leaves an even result. -/
theorem roundShift_bounds (m d : Nat) :
    2 * m ≤ (2 * roundShift m d + 1) * 2 ^ d ∧ 2 * roundShift m d * 2 ^ d ≤ 2 * m + 2 ^ d ∧
      (2 * m = (2 * roundShift m d + 1) * 2 ^ d ∨ 2 * roundShift m d * 2 ^ d = 2 * m + 2 ^ d →
        roundShift m d % 2 = 0) := by
  have hdiv := Nat.div_add_mod m (2 ^ d)
  have hmod := Nat.mod_lt m (Nat.two_pow_pos d)
  unfold roundShift
  simp only
  generalize m / 2 ^ d = q at hdiv ⊢
  generalize m % 2 ^ d = r at hdiv hmod ⊢
  generalize 2 ^ d = p at hdiv hmod ⊢
  have hpq : p * q = q * p := Nat.mul_comm p q
  split
  case isTrue h =>
    have hexpand : (2 * (q + 1) + 1) * p = 2 * (q * p) + 3 * p ∧ 2 * (q + 1) * p = 2 * (q * p) + 2 * p := by
      constructor <;> ring
    rw [hexpand.1, hexpand.2]
    omega
  case isFalse h =>
    have hexpand : (2 * q + 1) * p = 2 * (q * p) + p ∧ 2 * q * p = 2 * (q * p) := by
      constructor <;> ring
    rw [hexpand.1, hexpand.2]
    omega

theorem abs_sub_div_two_pow (s d : Nat) (z : ℚ) : |(s : ℚ) - z / 2 ^ d| = |2 * s * 2 ^ d - 2 * z| / (2 * 2 ^ d) := by
  have hp : (0 : ℚ) < 2 * 2 ^ d := by positivity
  rw [eq_div_iff hp.ne', ← abs_of_pos hp, ← abs_mul]
  congr 1
  field_simp

theorem nearestEvenInt_div_iff {s d : Nat} {z : ℚ} :
    NearestEvenInt s (z / 2 ^ d) ↔
      |2 * s * 2 ^ d - 2 * z| ≤ 2 ^ d ∧ (|2 * s * 2 ^ d - 2 * z| = 2 ^ d → s % 2 = 0) := by
  have hp : (0 : ℚ) < 2 * 2 ^ d := by positivity
  have hhalf : (1 / 2 : ℚ) = 2 ^ d / (2 * 2 ^ d) := by field_simp
  have hle : |(s : ℚ) - z / 2 ^ d| ≤ 1 / 2 ↔ |2 * s * 2 ^ d - 2 * z| ≤ 2 ^ d := by
    rw [abs_sub_div_two_pow, hhalf, div_le_div_iff_of_pos_right hp]
  have heq : |(s : ℚ) - z / 2 ^ d| = 1 / 2 ↔ |2 * s * 2 ^ d - 2 * z| = 2 ^ d := by
    rw [abs_sub_div_two_pow, hhalf, div_left_inj' hp.ne']
  rw [← hle, ← heq]
  exact ⟨fun h => ⟨h.dist_le, h.even_of_tie⟩, fun h => ⟨h.1, h.2⟩⟩

/-- `roundShift m d` is `m / 2 ^ d` rounded. -/
theorem nearestEvenInt_roundShift (m d : Nat) : NearestEvenInt (roundShift m d) (m / 2 ^ d) := by
  obtain ⟨hhi, hlo, htie⟩ := roundShift_bounds m d
  rw [nearestEvenInt_div_iff]
  generalize roundShift m d = s at hhi hlo htie ⊢
  have hhi' : 2 * (m : ℚ) ≤ (2 * s + 1) * 2 ^ d := by exact_mod_cast hhi
  have hlo' : 2 * (s : ℚ) * 2 ^ d ≤ 2 * m + 2 ^ d := by exact_mod_cast hlo
  refine ⟨abs_le.2 ⟨by linarith, by linarith⟩, fun h => htie ?_⟩
  obtain h | h := eq_or_eq_neg_of_abs_eq h
  · have hup : 2 * (s : ℚ) * 2 ^ d = 2 * m + 2 ^ d := by linarith
    exact .inr (by exact_mod_cast hup)
  · have hdown : 2 * (m : ℚ) = (2 * s + 1) * 2 ^ d := by linarith
    exact .inl (by exact_mod_cast hdown)

/-- An odd integer and a number strictly between its even neighbours round alike when two bits or more are cut: the
points where rounding changes are even. -/
theorem nearestEvenInt_roundShift_of_odd {m d : Nat} (hm : m % 2 = 1) (hd : 2 ≤ d) {z : ℚ} (hlo : (m : ℚ) - 1 < z)
    (hhi : z < m + 1) : NearestEvenInt (roundShift m d) (z / 2 ^ d) := by
  obtain ⟨hup, hdown, -⟩ := roundShift_bounds m d
  rw [nearestEvenInt_div_iff]
  generalize roundShift m d = s at hup hdown ⊢
  obtain ⟨p, hp⟩ : ∃ p, 2 ^ d = 4 * p := (pow_dvd_pow 2 hd : 2 ^ 2 ∣ 2 ^ d)
  have hup' : 2 * m + 2 ≤ (2 * s + 1) * 2 ^ d := by
    rw [hp] at hup ⊢
    have hexpand : (2 * s + 1) * (4 * p) = 4 * (2 * (s * p) + p) := by ring
    omega
  have hdown' : 2 * s * 2 ^ d + 2 ≤ 2 * m + 2 ^ d := by
    rw [hp] at hdown ⊢
    have hexpand : 2 * s * (4 * p) = 4 * (2 * (s * p)) := by ring
    omega
  have hupQ : 2 * (m : ℚ) + 2 ≤ (2 * s + 1) * 2 ^ d := by exact_mod_cast hup'
  have hdownQ : 2 * (s : ℚ) * 2 ^ d + 2 ≤ 2 * m + 2 ^ d := by exact_mod_cast hdown'
  have hlt : |2 * (s : ℚ) * 2 ^ d - 2 * z| < 2 ^ d := abs_lt.2 ⟨by linarith, by linarith⟩
  exact ⟨hlt.le, fun heq => absurd heq hlt.ne⟩

/-- `m` stands for `z` where rounding is asked: it is `z`, or it is odd and long enough, and `z` lies strictly between
its even neighbours (the sticky bit of `f32Div`). -/
def StandsFor (m : Nat) (z : ℚ) : Prop := z = m ∨ (m % 2 = 1 ∧ 2 ^ 26 ≤ m ∧ (m : ℚ) - 1 < z ∧ z < m + 1)

/-- What `m` stands for has the same highest bit. -/
theorem StandsFor.bounds {m : Nat} {z : ℚ} (h : StandsFor m z) (hm : m ≠ 0) :
    2 ^ Nat.log2 m ≤ z ∧ z < 2 ^ (Nat.log2 m + 1) := by
  have hlo := Nat.log2_self_le hm
  have hhi := Nat.lt_log2_self (n := m)
  obtain rfl | ⟨hodd, hlong, hlt, hgt⟩ := h
  · exact ⟨by exact_mod_cast hlo, by exact_mod_cast hhi⟩
  · have hlog : 26 ≤ Nat.log2 m := (Nat.le_log2 hm).2 hlong
    obtain ⟨p, hp⟩ : ∃ p, 2 ^ Nat.log2 m = 2 * p := dvd_pow_self 2 (by omega)
    rw [Nat.pow_succ] at hhi
    have hlo' : 2 ^ Nat.log2 m + 1 ≤ m := by omega
    have hhi' : m + 1 ≤ 2 ^ Nat.log2 m * 2 := by omega
    have hloQ : (2 : ℚ) ^ Nat.log2 m + 1 ≤ m := by exact_mod_cast hlo'
    have hhiQ : (m : ℚ) + 1 ≤ 2 ^ Nat.log2 m * 2 := by exact_mod_cast hhi'
    rw [pow_succ]
    exact ⟨by linarith, by linarith⟩

/-- The exponent of the unit in the last place that `f32Round` takes. -/
def roundUlp (m : Nat) (e : Int) : Int := max ((Nat.log2 m : Int) + e - 23) (-149)

/-- The integer `f32Round` rounds to, in these units. -/
def roundSig (m : Nat) (e : Int) : Nat :=
  if roundUlp m e ≤ e then m * 2 ^ (e - roundUlp m e).toNat else roundShift m (roundUlp m e - e).toNat

theorem f32Round_of_ne_zero (neg : Bool) {m : Nat} (hm : m ≠ 0) (e : Int) :
    f32Round neg m e = f32Pack neg (min f32InfLow ((roundUlp m e + 149).toNat * 2 ^ 23 + roundSig m e)) :=
  if_neg hm

theorem f32Round_zero (neg : Bool) (e : Int) : f32Round neg 0 e = f32Pack neg 0 := rfl

/-- Where the unit is no finer than the integer's last bit, nothing is cut; else `roundShift` rounds. -/
theorem nearestEvenInt_roundSig {m : Nat} {e : Int} {z : ℚ} (h : StandsFor m z) (hm : m ≠ 0) :
    NearestEvenInt (roundSig m e) (z / 2 ^ (roundUlp m e - e)) := by
  have hge : (Nat.log2 m : Int) + e - 23 ≤ roundUlp m e := le_max_left ..
  have hlog (hlong : 2 ^ 26 ≤ m) : 26 ≤ Nat.log2 m := (Nat.le_log2 hm).2 hlong
  unfold roundSig
  split
  case isTrue hcoarse =>
    obtain ⟨d, hd⟩ := Int.eq_ofNat_of_zero_le (sub_nonneg.2 hcoarse)
    have hexact : z = m := h.resolve_right fun ⟨_, hlong, _⟩ => by
      have := hlog hlong
      omega
    have hneg : roundUlp m e - e = -(d : Int) := by omega
    have hsame : ((m * 2 ^ d : Nat) : ℚ) - m * 2 ^ d = 0 := by
      push_cast
      ring
    rw [hd, Int.toNat_natCast, hneg, zpow_neg, zpow_natCast, div_inv_eq_mul, hexact]
    constructor
    all_goals
      rw [hsame]
      norm_num
  case isFalse hfine =>
    obtain ⟨d, hd⟩ := Int.eq_ofNat_of_zero_le (a := roundUlp m e - e) (by omega)
    rw [hd, Int.toNat_natCast, zpow_natCast]
    obtain rfl | ⟨hodd, hlong, hbelow, habove⟩ := h
    · exact nearestEvenInt_roundShift m d
    · have := hlog hlong
      exact nearestEvenInt_roundShift_of_odd hodd (by omega) hbelow habove

/-- `f32Round` rounds what its integer stands for: the unit is chosen by the highest bit. -/
theorem roundsTo_of_standsFor {m : Nat} {e : Int} {z : ℚ} (h : StandsFor m z) (hm : m ≠ 0) :
    RoundsTo (z * 2 ^ e) (roundUlp m e + 149).toNat (roundSig m e) := by
  obtain ⟨hlo, hhi⟩ := h.bounds hm
  have hge : (Nat.log2 m : Int) + e - 23 ≤ roundUlp m e := le_max_left ..
  have hmin : -149 ≤ roundUlp m e := le_max_right ..
  have heq : roundUlp m e = (Nat.log2 m : Int) + e - 23 ∨ roundUlp m e = -149 := max_choice ..
  have hulp : ulpOf (roundUlp m e + 149).toNat = 2 ^ roundUlp m e := by
    rw [ulpOf]
    congr 1
    omega
  have hpow : (0 : ℚ) < 2 ^ e := by positivity
  refine ⟨?nearest, ?lt, ?ge⟩
  all_goals rw [hulp]
  case nearest =>
    have hy : z * 2 ^ e / 2 ^ roundUlp m e = z / 2 ^ (roundUlp m e - e) := by
      rw [zpow_sub₀ two_ne_zero]
      field_simp
    exact hy ▸ nearestEvenInt_roundSig h hm
  case lt =>
    calc z * 2 ^ e < 2 ^ (Nat.log2 m + 1) * 2 ^ e := mul_lt_mul_of_pos_right hhi hpow
      _ = 2 ^ ((Nat.log2 m : Int) + 1 + e) := by
        rw [zpow_add₀ two_ne_zero, ← zpow_natCast]
        push_cast
        rfl
      _ ≤ 2 ^ (24 + roundUlp m e) := zpow_le_zpow_right₀ one_le_two (by omega)
      _ = 2 ^ 24 * 2 ^ roundUlp m e := by
        rw [zpow_add₀ two_ne_zero]
        rfl
  case ge =>
    refine or_iff_not_imp_left.2 fun hk => ?_
    calc (2 : ℚ) ^ 23 * 2 ^ roundUlp m e = 2 ^ (23 + roundUlp m e) := by
          rw [zpow_add₀ two_ne_zero]
          rfl
      _ = 2 ^ ((Nat.log2 m : Int) + e) := by
        congr 1
        omega
      _ = 2 ^ Nat.log2 m * 2 ^ e := by rw [zpow_add₀ two_ne_zero, zpow_natCast]
      _ ≤ z * 2 ^ e := mul_le_mul_of_nonneg_right hlo hpow.le

/-- Zero is a pattern, so it is its own rounding. -/
theorem roundedResult_zero (neg : Bool) : RoundedResult (f32Pack neg 0) neg 0 := by
  have h : RoundsTo 0 0 0 := by
    refine ⟨⟨?_, fun _ => rfl⟩, ?_, .inl rfl⟩
    · norm_num
    · have hpos := ulpOf_pos 0
      positivity
  exact h.roundedResult neg le_rfl

/-- R181: `f32Round` of an integer gives the rounding of what it stands for. -/
theorem f32Round_roundedResult (neg : Bool) {m : Nat} {z : ℚ} (h : StandsFor m z) (e : Int) :
    RoundedResult (f32Round neg m e) neg (z * 2 ^ e) := by
  by_cases hm : m = 0
  · subst hm
    obtain rfl | ⟨hodd, -⟩ := h
    · rw [f32Round_zero, Nat.cast_zero, zero_mul]
      exact roundedResult_zero neg
    · cases hodd
  · have hz : 0 ≤ z := le_trans (by positivity) (h.bounds hm).1
    rw [f32Round_of_ne_zero neg hm]
    exact (roundsTo_of_standsFor h hm).roundedResult neg (by positivity)

/-! ### Multiplication and division -/

theorem withSign_mul (p q : Bool) (x y : ℚ) : withSign p x * withSign q y = withSign (p ^^ q) (x * y) := by
  cases p <;> cases q <;> simp

theorem withSign_div (p q : Bool) (x y : ℚ) : withSign p x / withSign q y = withSign (p ^^ q) (x / y) := by
  cases p <;> cases q <;> simp [neg_div, div_neg]

/-- R181: FMUL32 of finite operands rounds the product of the magnitudes. -/
theorem f32Mul_roundedResult (n : Nat) {a b : Word} (ha : f32Finite a) (hb : f32Finite b) :
    RoundedResult (f32Mul n a b) (f32Sign a ^^ f32Sign b) (|f32Value a| * |f32Value b|) := by
  have hprod : |f32Value a| * |f32Value b| =
      ((f32Sig a * f32Sig b : Nat) : ℚ) * 2 ^ (f32Scale a + f32Scale b) := by
    rw [abs_f32Value, abs_f32Value, zpow_add₀ two_ne_zero]
    push_cast
    ring
  rw [f32Mul_finite n ha hb, hprod]
  exact f32Round_roundedResult _ (.inl rfl) _

/-- Settles O57: the product's sign and magnitude are the product of the signs and of the magnitudes. -/
theorem multiplicationRoundsToNearestEven : Obligations.MultiplicationRoundsToNearestEven := by
  intro n a b ha hb
  have h := f32Mul_roundedResult n ha hb
  have hvalue : f32Value a * f32Value b = withSign (f32Sign a ^^ f32Sign b) (|f32Value a| * |f32Value b|) := by
    rw [← withSign_mul, ← f32Value_eq_withSign_abs, ← f32Value_eq_withSign_abs]
  rw [hvalue, abs_withSign]
  exact ⟨h.sign, h.nearest, h.overflow⟩

/-- The quotient with its sticky bit stands for twice the exact quotient. -/
theorem standsFor_stickyQuotient {x y : Nat} (hy : y ≠ 0) (hlong : x = 0 ∨ 2 ^ 26 * y ≤ x) :
    StandsFor (stickyQuotient x y) (2 * (x / y)) := by
  have hdiv := Nat.div_add_mod x y
  have hmod := Nat.mod_lt x (Nat.pos_of_ne_zero hy)
  have hyQ : (0 : ℚ) < y := by exact_mod_cast Nat.pos_of_ne_zero hy
  unfold stickyQuotient
  split
  case isTrue hzero =>
    left
    rw [Nat.add_zero, Nat.cast_mul, Nat.cast_div (Nat.dvd_of_mod_eq_zero hzero) hyQ.ne']
    rfl
  case isFalse hrem =>
    right
    have hquot : 2 ^ 26 ≤ x / y := by
      refine (Nat.le_div_iff_mul_le (Nat.pos_of_ne_zero hy)).2 (hlong.resolve_left ?_)
      rintro rfl
      exact hrem (Nat.zero_mod y)
    have hlo : y * (x / y) < x := by omega
    have hhi : x < y * (x / y + 1) := by
      rw [Nat.mul_add_one]
      omega
    have hloQ : ((x / y : Nat) : ℚ) < x / y := by
      rw [lt_div_iff₀' hyQ]
      exact_mod_cast hlo
    have hhiQ : (x : ℚ) / y < (x / y : Nat) + 1 := by
      rw [div_lt_iff₀' hyQ]
      exact_mod_cast hhi
    refine ⟨by omega, by omega, ?_, ?_⟩
    · push_cast
      linarith
    · push_cast
      linarith

/-- R181: FDIV32 of finite operands, the divisor not zero, rounds the quotient of the magnitudes. -/
theorem f32Div_roundedResult (n : Nat) {a b : Word} (ha : f32Finite a) (hb : f32Finite b) (hzb : f32Sig b ≠ 0) :
    RoundedResult (f32Div n a b) (f32Sign a ^^ f32Sign b) (|f32Value a| / |f32Value b|) := by
  have hlong : f32Sig a * 2 ^ divGuard = 0 ∨ 2 ^ 26 * f32Sig b ≤ f32Sig a * 2 ^ divGuard := by
    have hlt := f32Sig_lt b
    have hguard : (2 : Nat) ^ divGuard = 2 ^ 50 := rfl
    rw [hguard]
    omega
  have hquot : |f32Value a| / |f32Value b| =
      2 * (((f32Sig a * 2 ^ divGuard : Nat) : ℚ) / f32Sig b) *
        2 ^ (f32Scale a - f32Scale b - (divGuard : Int) - 1) := by
    rw [abs_f32Value, abs_f32Value, zpow_sub₀ two_ne_zero, zpow_sub₀ two_ne_zero, zpow_sub₀ two_ne_zero,
      zpow_natCast]
    push_cast
    field_simp
  rw [f32Div_finite n ha hb hzb, hquot]
  exact f32Round_roundedResult _ (standsFor_stickyQuotient hzb hlong) _

/-- Settles O58: as O57, with the quotient of the magnitudes. -/
theorem divisionRoundsToNearestEven : Obligations.DivisionRoundsToNearestEven := by
  intro n a b ha hb hzb
  have h := f32Div_roundedResult n ha hb (mt (f32Value_eq_zero_iff b).2 hzb)
  have hvalue : f32Value a / f32Value b = withSign (f32Sign a ^^ f32Sign b) (|f32Value a| / |f32Value b|) := by
    rw [← withSign_div, ← f32Value_eq_withSign_abs, ← f32Value_eq_withSign_abs]
  rw [hvalue, abs_withSign]
  exact ⟨h.sign, h.nearest, h.overflow⟩

/-! ### TSLIP outside 0..3 -/

/-- Zero over anything but a zero or a NaN is a signed zero (R195). -/
theorem f32Div_zero_left (n : Nat) {a b : Word} (ha : f32Finite a) (hza : f32Sig a = 0) (hb : f32IsNaN b = false)
    (hzb : f32Sig b ≠ 0) : f32Div n a b = f32Pack (f32Sign a ^^ f32Sign b) 0 := by
  cases hinf : f32IsInf b with
  | true => exact f32Div_inf_right n ha hinf
  | false =>
    rw [f32Div_finite n ha ((f32Finite_iff b).2 ⟨hb, hinf⟩) hzb, hza, Nat.zero_mul, stickyQuotient, Nat.zero_div,
      Nat.zero_mod]
    exact f32Round_zero _ _

/-- C36 is finite and exceeds one half. -/
theorem f32Value_c36 : f32Finite 0x40666666 ∧ f32Sign 0x40666666 = false ∧ 1 / 2 < |f32Value 0x40666666| := by
  have hsig : f32Sig 0x40666666 = 15099494 := by decide
  have hscale : f32Scale 0x40666666 = -22 := by decide
  refine ⟨by unfold f32Finite; decide, by decide, ?_⟩
  rw [abs_f32Value, hsig, hscale]
  norm_num

/-- The converted speed keeps the sign, and it is no NaN and no zero: the speed itself is a pattern nearer to the product
than zero is. -/
theorem convertedSpeed (n : Nat) {v : Word} (hnan : f32IsNaN v = false) (hv : f32Sig v ≠ 0) :
    f32IsNaN (f32Mul n 0x40666666 v) = false ∧ f32Sig (f32Mul n 0x40666666 v) ≠ 0 ∧
      f32Sign (f32Mul n 0x40666666 v) = f32Sign v := by
  obtain ⟨hc, hcsign, hchalf⟩ := f32Value_c36
  cases hinf : f32IsInf v with
  | true =>
    have hcsig : f32Sig 0x40666666 ≠ 0 := by decide
    have hresult := isInf_f32Pack_infLow (f32Sign 0x40666666 ^^ f32Sign v)
    rw [f32Mul_inf_right n ((f32Finite_iff _).1 hc).1 hcsig hinf]
    refine ⟨not_isNaN_of_isInf hresult, f32Sig_ne_zero_of_isInf hresult, ?_⟩
    rw [f32Sign_f32Pack _ (by decide), hcsign, Bool.false_xor]
  | false =>
    have hvfin : f32Finite v := (f32Finite_iff v).2 ⟨hnan, hinf⟩
    have h := f32Mul_roundedResult n hc hvfin
    generalize f32Mul n 0x40666666 v = p at h
    rw [hcsign, Bool.false_xor] at h
    have hvpos : 0 < |f32Value v| := abs_pos.2 (mt (f32Value_eq_zero_iff v).1 hv)
    have hvalue := f32Value_eq_withSign_abs v
    generalize |f32Value 0x40666666| = c at h hchalf
    generalize |f32Value v| = w at h hvpos hvalue
    rcases lt_or_ge |c * w| f32Overflow with hlt | hge
    · obtain ⟨hpfin, hnear⟩ := h.nearest hlt
      refine ⟨((f32Finite_iff p).1 hpfin).1, fun hzero => ?_, h.sign⟩
      have hle := (hnear v hvfin).1
      rw [(f32Value_eq_zero_iff p).2 hzero, hvalue, abs_withSign_sub, zero_sub, abs_neg, abs_withSign,
        abs_of_pos (mul_pos (by linarith) hvpos)] at hle
      have hcloser : |w - c * w| < c * w := by
        rw [abs_lt]
        constructor <;> nlinarith
      exact absurd hle (not_le.2 hcloser)
    · have hresult := h.overflow hge
      exact ⟨not_isNaN_of_isInf hresult, f32Sig_ne_zero_of_isInf hresult, h.sign⟩

/-- A pattern of significand 0 is a zero. -/
theorem f32Sig_ne_zero {v : Word} (h0 : v ≠ 0x00000000) (h1 : v ≠ 0x80000000) : f32Sig v ≠ 0 := by
  have hexp := f32Exp_eq v
  have hfrac := f32Frac_eq v
  have hv := v.isLt
  have h0' : v.toNat ≠ 0 := fun h => h0 (BitVec.eq_of_toNat_eq h)
  have h1' : v.toNat ≠ 2 ^ 31 := fun h => h1 (BitVec.eq_of_toNat_eq h)
  unfold f32Sig
  split <;> omega

/-- Settles O55: the tire speed is +0.0 there, and the converted speed is no NaN and no zero. -/
theorem tslipOutOfRangeIsAZero : Obligations.TslipOutOfRangeIsAZero := by
  intro s idx v hm hs hspeed hi h0 h1 hnan
  obtain ⟨-, -, houtside⟩ := tslipGivesTheSlipRatio s idx v hm hs hspeed
  refine ⟨_, houtside h0 h1 hi, rfl, ?_⟩
  obtain ⟨hpnan, hpsig, hpsign⟩ := convertedSpeed (s.draw + 2) hnan (f32Sig_ne_zero h0 h1)
  have hzero : f32Finite 0 ∧ f32Sig 0 = 0 ∧ f32Sign 0 = false := by
    refine ⟨by unfold f32Finite; decide, by decide, by decide⟩
  change f32Div (s.draw + 3) 0 _ = _
  rw [f32Div_zero_left _ hzero.1 hzero.2.1 hpnan hpsig, hzero.2.2, hpsign, Bool.false_xor, f32Sign]
  cases v.getLsbD 31 <;> rfl

end Sys2Proof.Machine
end
